-- ==== Sys2Proof/Word.lean ====
section
/-! DEFINITION. The word types of the MOS 6502 core: bytes, 16-bit words and the 64-bit counters (spec/00_scope.md R5, R6).
The bit-field and byte-order helpers stand in Decode.lean and Machine/Ops.lean. -/

namespace Sys2Proof

/-- A byte, an 8-bit unsigned value (R6): A, X, Y, SP, the packed status and every memory cell. -/
abbrev Byte := BitVec 8

/-- A word, a 16-bit unsigned value (R6): PC, every address and the cached vectors. -/
abbrev Word := BitVec 16

/-- A 64-bit unsigned counter (R5): Cycles and StallCycles. -/
abbrev Count := BitVec 64

end Sys2Proof
end

