-- ==== Sys2Proof/Syntax.lean ====
section
/-! DEFINITION. The syntax of the instruction set: addressing modes with their operand bytes, the names of the
instructions, the entry of the opcode table, and Instr, one constructor per row of spec/opcode_table.json
(spec/30_encoding.md R90 to R114). -/

namespace Sys2Proof

/-- The thirteen addressing modes of R93. -/
inductive Mode where
  | imp | acc | imm | zp | zpx | zpy | abs | absx | absy | ind | indx | indy | rel
deriving DecidableEq, Repr

/-- The eight modes whose operand is `Mem(ea)` (R93), each with its operand bytes assembled as R92 says. -/
inductive MemForm where
  /-- R98, `$nn`. -/
  | zp (zp : Byte)
  /-- R99, `$nn,X`. -/
  | zpx (zp : Byte)
  /-- R100, `$nn,Y`. -/
  | zpy (zp : Byte)
  /-- R101, `$nnnn`. -/
  | abs (addr : Word)
  /-- R102, `$nnnn,X`. -/
  | absx (addr : Word)
  /-- R103, `$nnnn,Y`. -/
  | absy (addr : Word)
  /-- R105, `($nn,X)`. -/
  | indx (zp : Byte)
  /-- R106, `($nn),Y`. -/
  | indy (zp : Byte)
deriving DecidableEq, Repr

/-- An addressing mode together with its operand bytes: all thirteen modes of R93. -/
inductive Form where
  /-- R95. BRK has this form; its second byte is never read (R90, R272). -/
  | imp
  /-- R96, `A`. -/
  | acc
  /-- R97, `#$nn`. -/
  | imm (v : Byte)
  /-- R98 to R103, R105 and R106. -/
  | mem (m : MemForm)
  /-- R104, `($nnnn)`. -/
  | ind (addr : Word)
  /-- R107: the signed offset byte of a branch. -/
  | rel (off : Byte)
deriving DecidableEq, Repr

/-- The mode of a memory form. -/
def MemForm.mode : MemForm → Mode
  | .zp _ => .zp | .zpx _ => .zpx | .zpy _ => .zpy
  | .abs _ => .abs | .absx _ => .absx | .absy _ => .absy
  | .indx _ => .indx | .indy _ => .indy

/-- The mode of a form. -/
def Form.mode : Form → Mode
  | .imp => .imp | .acc => .acc | .imm _ => .imm
  | .mem m => m.mode | .ind _ => .ind | .rel _ => .rel

/-- The names of the instructions that have an InstructionDescriptor (R114): the 64 mnemonics of
spec/opcode_table.json less ILLEGAL, and one more each for the unofficial SBC ($EB) and the unofficial NOPs, whose
descriptors are their own (decision D7, conflict C11). -/
inductive Mnemonic where
  | lda | ldx | ldy | sta | stx | sty | tax | tay | txa | tya
  | tsx | txs | adc | sbc | and | ora | eor | bit | cmp | cpx
  | cpy | inc | dec | inx | iny | dex | dey | asl | lsr | rol
  | ror | bcc | bcs | beq | bmi | bne | bpl | bvc | bvs | jmp
  | jsr | rts | pha | php | pla | plp | clc | cld | cli | clv
  | sec | sed | sei | nop | brk | rti | slo | rla | sre | rra
  | dcp | isc | lax | sax | sbcUnofficial | nopUnofficial
deriving DecidableEq, Repr

/-- A mapped entry of the opcode table (R110). -/
structure Entry where
  /-- The instruction. -/
  instr : Mnemonic
  /-- The addressing mode. -/
  mode : Mode
  /-- The size in bytes, the opcode byte included (R91). -/
  size : Nat
  /-- The base cycle cost. -/
  cycles : Nat
  /-- Whether a page cross adds a cycle (R118). -/
  pageCross : Bool
  /-- Whether the opcode is unofficial (R113). -/
  unofficial : Bool
deriving DecidableEq, Repr

/-- The instructions: one constructor per row of spec/opcode_table.json, the mapped rows in
the table's order and then the unmapped ones. A constructor carries the
operand bytes that the instruction reads, assembled as R92 says. The 25 unmapped rows are constructors too, since a
Step that fetches one has an effect (R333). -/
inductive Instr where
  /-- $00: BRK (R272). -/
  | brk
  /-- $01: ORA (zp,X) (R184). -/
  | oraIndx (zp : Byte)
  /-- $03: unofficial SLO (zp,X) (R291). -/
  | sloIndx (zp : Byte)
  /-- $04: unofficial NOP zp (R300). -/
  | nopZp04 (zp : Byte)
  /-- $05: ORA zp (R184). -/
  | oraZp (zp : Byte)
  /-- $06: ASL zp (R198). -/
  | aslZp (zp : Byte)
  /-- $07: unofficial SLO zp (R291). -/
  | sloZp (zp : Byte)
  /-- $08: PHP (R261). -/
  | php
  /-- $09: ORA # (R184). -/
  | oraImm (v : Byte)
  /-- $0A: ASL A (R198). -/
  | aslAcc
  /-- $0C: unofficial NOP abs (R300). -/
  | nopAbs0C (addr : Word)
  /-- $0D: ORA abs (R184). -/
  | oraAbs (addr : Word)
  /-- $0E: ASL abs (R198). -/
  | aslAbs (addr : Word)
  /-- $0F: unofficial SLO abs (R291). -/
  | sloAbs (addr : Word)
  /-- $10: BPL rel (R236). -/
  | bpl (off : Byte)
  /-- $11: ORA (zp),Y (R184). -/
  | oraIndy (zp : Byte)
  /-- $13: unofficial SLO (zp),Y (R291). -/
  | sloIndy (zp : Byte)
  /-- $14: unofficial NOP zp,X (R300). -/
  | nopZpx14 (zp : Byte)
  /-- $15: ORA zp,X (R184). -/
  | oraZpx (zp : Byte)
  /-- $16: ASL zp,X (R198). -/
  | aslZpx (zp : Byte)
  /-- $17: unofficial SLO zp,X (R291). -/
  | sloZpx (zp : Byte)
  /-- $18: CLC (R264). -/
  | clc
  /-- $19: ORA abs,Y (R184). -/
  | oraAbsy (addr : Word)
  /-- $1A: unofficial NOP (R300). -/
  | nopImp1A
  /-- $1B: unofficial SLO abs,Y (R291). -/
  | sloAbsy (addr : Word)
  /-- $1C: unofficial NOP abs,X (R300). -/
  | nopAbsx1C (addr : Word)
  /-- $1D: ORA abs,X (R184). -/
  | oraAbsx (addr : Word)
  /-- $1E: ASL abs,X (R198). -/
  | aslAbsx (addr : Word)
  /-- $1F: unofficial SLO abs,X (R291). -/
  | sloAbsx (addr : Word)
  /-- $20: JSR abs (R240). -/
  | jsr (addr : Word)
  /-- $21: AND (zp,X) (R183). -/
  | andIndx (zp : Byte)
  /-- $23: unofficial RLA (zp,X) (R292). -/
  | rlaIndx (zp : Byte)
  /-- $24: BIT zp (R186). -/
  | bitZp (zp : Byte)
  /-- $25: AND zp (R183). -/
  | andZp (zp : Byte)
  /-- $26: ROL zp (R200). -/
  | rolZp (zp : Byte)
  /-- $27: unofficial RLA zp (R292). -/
  | rlaZp (zp : Byte)
  /-- $28: PLP (R263). -/
  | plp
  /-- $29: AND # (R183). -/
  | andImm (v : Byte)
  /-- $2A: ROL A (R200). -/
  | rolAcc
  /-- $2C: BIT abs (R186). -/
  | bitAbs (addr : Word)
  /-- $2D: AND abs (R183). -/
  | andAbs (addr : Word)
  /-- $2E: ROL abs (R200). -/
  | rolAbs (addr : Word)
  /-- $2F: unofficial RLA abs (R292). -/
  | rlaAbs (addr : Word)
  /-- $30: BMI rel (R234). -/
  | bmi (off : Byte)
  /-- $31: AND (zp),Y (R183). -/
  | andIndy (zp : Byte)
  /-- $33: unofficial RLA (zp),Y (R292). -/
  | rlaIndy (zp : Byte)
  /-- $34: unofficial NOP zp,X (R300). -/
  | nopZpx34 (zp : Byte)
  /-- $35: AND zp,X (R183). -/
  | andZpx (zp : Byte)
  /-- $36: ROL zp,X (R200). -/
  | rolZpx (zp : Byte)
  /-- $37: unofficial RLA zp,X (R292). -/
  | rlaZpx (zp : Byte)
  /-- $38: SEC (R268). -/
  | sec
  /-- $39: AND abs,Y (R183). -/
  | andAbsy (addr : Word)
  /-- $3A: unofficial NOP (R300). -/
  | nopImp3A
  /-- $3B: unofficial RLA abs,Y (R292). -/
  | rlaAbsy (addr : Word)
  /-- $3C: unofficial NOP abs,X (R300). -/
  | nopAbsx3C (addr : Word)
  /-- $3D: AND abs,X (R183). -/
  | andAbsx (addr : Word)
  /-- $3E: ROL abs,X (R200). -/
  | rolAbsx (addr : Word)
  /-- $3F: unofficial RLA abs,X (R292). -/
  | rlaAbsx (addr : Word)
  /-- $40: RTI (R273). -/
  | rti
  /-- $41: EOR (zp,X) (R185). -/
  | eorIndx (zp : Byte)
  /-- $43: unofficial SRE (zp,X) (R293). -/
  | sreIndx (zp : Byte)
  /-- $44: unofficial NOP zp (R300). -/
  | nopZp44 (zp : Byte)
  /-- $45: EOR zp (R185). -/
  | eorZp (zp : Byte)
  /-- $46: LSR zp (R199). -/
  | lsrZp (zp : Byte)
  /-- $47: unofficial SRE zp (R293). -/
  | sreZp (zp : Byte)
  /-- $48: PHA (R260). -/
  | pha
  /-- $49: EOR # (R185). -/
  | eorImm (v : Byte)
  /-- $4A: LSR A (R199). -/
  | lsrAcc
  /-- $4C: JMP abs (R239). -/
  | jmpAbs (addr : Word)
  /-- $4D: EOR abs (R185). -/
  | eorAbs (addr : Word)
  /-- $4E: LSR abs (R199). -/
  | lsrAbs (addr : Word)
  /-- $4F: unofficial SRE abs (R293). -/
  | sreAbs (addr : Word)
  /-- $50: BVC rel (R237). -/
  | bvc (off : Byte)
  /-- $51: EOR (zp),Y (R185). -/
  | eorIndy (zp : Byte)
  /-- $53: unofficial SRE (zp),Y (R293). -/
  | sreIndy (zp : Byte)
  /-- $54: unofficial NOP zp,X (R300). -/
  | nopZpx54 (zp : Byte)
  /-- $55: EOR zp,X (R185). -/
  | eorZpx (zp : Byte)
  /-- $56: LSR zp,X (R199). -/
  | lsrZpx (zp : Byte)
  /-- $57: unofficial SRE zp,X (R293). -/
  | sreZpx (zp : Byte)
  /-- $58: CLI (R266). -/
  | cli
  /-- $59: EOR abs,Y (R185). -/
  | eorAbsy (addr : Word)
  /-- $5A: unofficial NOP (R300). -/
  | nopImp5A
  /-- $5B: unofficial SRE abs,Y (R293). -/
  | sreAbsy (addr : Word)
  /-- $5C: unofficial NOP abs,X (R300). -/
  | nopAbsx5C (addr : Word)
  /-- $5D: EOR abs,X (R185). -/
  | eorAbsx (addr : Word)
  /-- $5E: LSR abs,X (R199). -/
  | lsrAbsx (addr : Word)
  /-- $5F: unofficial SRE abs,X (R293). -/
  | sreAbsx (addr : Word)
  /-- $60: RTS (R241). -/
  | rts
  /-- $61: ADC (zp,X) (R181). -/
  | adcIndx (zp : Byte)
  /-- $63: unofficial RRA (zp,X) (R294). -/
  | rraIndx (zp : Byte)
  /-- $64: unofficial NOP zp (R300). -/
  | nopZp64 (zp : Byte)
  /-- $65: ADC zp (R181). -/
  | adcZp (zp : Byte)
  /-- $66: ROR zp (R201). -/
  | rorZp (zp : Byte)
  /-- $67: unofficial RRA zp (R294). -/
  | rraZp (zp : Byte)
  /-- $68: PLA (R262). -/
  | pla
  /-- $69: ADC # (R181). -/
  | adcImm (v : Byte)
  /-- $6A: ROR A (R201). -/
  | rorAcc
  /-- $6C: JMP (abs) (R239). -/
  | jmpInd (addr : Word)
  /-- $6D: ADC abs (R181). -/
  | adcAbs (addr : Word)
  /-- $6E: ROR abs (R201). -/
  | rorAbs (addr : Word)
  /-- $6F: unofficial RRA abs (R294). -/
  | rraAbs (addr : Word)
  /-- $70: BVS rel (R238). -/
  | bvs (off : Byte)
  /-- $71: ADC (zp),Y (R181). -/
  | adcIndy (zp : Byte)
  /-- $73: unofficial RRA (zp),Y (R294). -/
  | rraIndy (zp : Byte)
  /-- $74: unofficial NOP zp,X (R300). -/
  | nopZpx74 (zp : Byte)
  /-- $75: ADC zp,X (R181). -/
  | adcZpx (zp : Byte)
  /-- $76: ROR zp,X (R201). -/
  | rorZpx (zp : Byte)
  /-- $77: unofficial RRA zp,X (R294). -/
  | rraZpx (zp : Byte)
  /-- $78: SEI (R270). -/
  | sei
  /-- $79: ADC abs,Y (R181). -/
  | adcAbsy (addr : Word)
  /-- $7A: unofficial NOP (R300). -/
  | nopImp7A
  /-- $7B: unofficial RRA abs,Y (R294). -/
  | rraAbsy (addr : Word)
  /-- $7C: unofficial NOP abs,X (R300). -/
  | nopAbsx7C (addr : Word)
  /-- $7D: ADC abs,X (R181). -/
  | adcAbsx (addr : Word)
  /-- $7E: ROR abs,X (R201). -/
  | rorAbsx (addr : Word)
  /-- $7F: unofficial RRA abs,X (R294). -/
  | rraAbsx (addr : Word)
  /-- $80: unofficial NOP # (R300). -/
  | nopImm80 (v : Byte)
  /-- $81: STA (zp,X) (R154). -/
  | staIndx (zp : Byte)
  /-- $82: unofficial NOP # (R300). -/
  | nopImm82 (v : Byte)
  /-- $83: unofficial SAX (zp,X) (R298). -/
  | saxIndx (zp : Byte)
  /-- $84: STY zp (R156). -/
  | styZp (zp : Byte)
  /-- $85: STA zp (R154). -/
  | staZp (zp : Byte)
  /-- $86: STX zp (R155). -/
  | stxZp (zp : Byte)
  /-- $87: unofficial SAX zp (R298). -/
  | saxZp (zp : Byte)
  /-- $88: DEY (R196). -/
  | dey
  /-- $89: unofficial NOP # (R300). -/
  | nopImm89 (v : Byte)
  /-- $8A: TXA (R159). -/
  | txa
  /-- $8C: STY abs (R156). -/
  | styAbs (addr : Word)
  /-- $8D: STA abs (R154). -/
  | staAbs (addr : Word)
  /-- $8E: STX abs (R155). -/
  | stxAbs (addr : Word)
  /-- $8F: unofficial SAX abs (R298). -/
  | saxAbs (addr : Word)
  /-- $90: BCC rel (R231). -/
  | bcc (off : Byte)
  /-- $91: STA (zp),Y (R154). -/
  | staIndy (zp : Byte)
  /-- $94: STY zp,X (R156). -/
  | styZpx (zp : Byte)
  /-- $95: STA zp,X (R154). -/
  | staZpx (zp : Byte)
  /-- $96: STX zp,Y (R155). -/
  | stxZpy (zp : Byte)
  /-- $97: unofficial SAX zp,Y (R298). -/
  | saxZpy (zp : Byte)
  /-- $98: TYA (R160). -/
  | tya
  /-- $99: STA abs,Y (R154). -/
  | staAbsy (addr : Word)
  /-- $9A: TXS (R162). -/
  | txs
  /-- $9D: STA abs,X (R154). -/
  | staAbsx (addr : Word)
  /-- $A0: LDY # (R153). -/
  | ldyImm (v : Byte)
  /-- $A1: LDA (zp,X) (R151). -/
  | ldaIndx (zp : Byte)
  /-- $A2: LDX # (R152). -/
  | ldxImm (v : Byte)
  /-- $A3: unofficial LAX (zp,X) (R297). -/
  | laxIndx (zp : Byte)
  /-- $A4: LDY zp (R153). -/
  | ldyZp (zp : Byte)
  /-- $A5: LDA zp (R151). -/
  | ldaZp (zp : Byte)
  /-- $A6: LDX zp (R152). -/
  | ldxZp (zp : Byte)
  /-- $A7: unofficial LAX zp (R297). -/
  | laxZp (zp : Byte)
  /-- $A8: TAY (R158). -/
  | tay
  /-- $A9: LDA # (R151). -/
  | ldaImm (v : Byte)
  /-- $AA: TAX (R157). -/
  | tax
  /-- $AC: LDY abs (R153). -/
  | ldyAbs (addr : Word)
  /-- $AD: LDA abs (R151). -/
  | ldaAbs (addr : Word)
  /-- $AE: LDX abs (R152). -/
  | ldxAbs (addr : Word)
  /-- $AF: unofficial LAX abs (R297). -/
  | laxAbs (addr : Word)
  /-- $B0: BCS rel (R232). -/
  | bcs (off : Byte)
  /-- $B1: LDA (zp),Y (R151). -/
  | ldaIndy (zp : Byte)
  /-- $B3: unofficial LAX (zp),Y (R297). -/
  | laxIndy (zp : Byte)
  /-- $B4: LDY zp,X (R153). -/
  | ldyZpx (zp : Byte)
  /-- $B5: LDA zp,X (R151). -/
  | ldaZpx (zp : Byte)
  /-- $B6: LDX zp,Y (R152). -/
  | ldxZpy (zp : Byte)
  /-- $B7: unofficial LAX zp,Y (R297). -/
  | laxZpy (zp : Byte)
  /-- $B8: CLV (R267). -/
  | clv
  /-- $B9: LDA abs,Y (R151). -/
  | ldaAbsy (addr : Word)
  /-- $BA: TSX (R161). -/
  | tsx
  /-- $BC: LDY abs,X (R153). -/
  | ldyAbsx (addr : Word)
  /-- $BD: LDA abs,X (R151). -/
  | ldaAbsx (addr : Word)
  /-- $BE: LDX abs,Y (R152). -/
  | ldxAbsy (addr : Word)
  /-- $BF: unofficial LAX abs,Y (R297). -/
  | laxAbsy (addr : Word)
  /-- $C0: CPY # (R190). -/
  | cpyImm (v : Byte)
  /-- $C1: CMP (zp,X) (R188). -/
  | cmpIndx (zp : Byte)
  /-- $C2: unofficial NOP # (R300). -/
  | nopImmC2 (v : Byte)
  /-- $C3: unofficial DCP (zp,X) (R295). -/
  | dcpIndx (zp : Byte)
  /-- $C4: CPY zp (R190). -/
  | cpyZp (zp : Byte)
  /-- $C5: CMP zp (R188). -/
  | cmpZp (zp : Byte)
  /-- $C6: DEC zp (R192). -/
  | decZp (zp : Byte)
  /-- $C7: unofficial DCP zp (R295). -/
  | dcpZp (zp : Byte)
  /-- $C8: INY (R194). -/
  | iny
  /-- $C9: CMP # (R188). -/
  | cmpImm (v : Byte)
  /-- $CA: DEX (R195). -/
  | dex
  /-- $CC: CPY abs (R190). -/
  | cpyAbs (addr : Word)
  /-- $CD: CMP abs (R188). -/
  | cmpAbs (addr : Word)
  /-- $CE: DEC abs (R192). -/
  | decAbs (addr : Word)
  /-- $CF: unofficial DCP abs (R295). -/
  | dcpAbs (addr : Word)
  /-- $D0: BNE rel (R235). -/
  | bne (off : Byte)
  /-- $D1: CMP (zp),Y (R188). -/
  | cmpIndy (zp : Byte)
  /-- $D3: unofficial DCP (zp),Y (R295). -/
  | dcpIndy (zp : Byte)
  /-- $D4: unofficial NOP zp,X (R300). -/
  | nopZpxD4 (zp : Byte)
  /-- $D5: CMP zp,X (R188). -/
  | cmpZpx (zp : Byte)
  /-- $D6: DEC zp,X (R192). -/
  | decZpx (zp : Byte)
  /-- $D7: unofficial DCP zp,X (R295). -/
  | dcpZpx (zp : Byte)
  /-- $D8: CLD (R265). -/
  | cld
  /-- $D9: CMP abs,Y (R188). -/
  | cmpAbsy (addr : Word)
  /-- $DA: unofficial NOP (R300). -/
  | nopImpDA
  /-- $DB: unofficial DCP abs,Y (R295). -/
  | dcpAbsy (addr : Word)
  /-- $DC: unofficial NOP abs,X (R300). -/
  | nopAbsxDC (addr : Word)
  /-- $DD: CMP abs,X (R188). -/
  | cmpAbsx (addr : Word)
  /-- $DE: DEC abs,X (R192). -/
  | decAbsx (addr : Word)
  /-- $DF: unofficial DCP abs,X (R295). -/
  | dcpAbsx (addr : Word)
  /-- $E0: CPX # (R189). -/
  | cpxImm (v : Byte)
  /-- $E1: SBC (zp,X) (R182). -/
  | sbcIndx (zp : Byte)
  /-- $E2: unofficial NOP # (R300). -/
  | nopImmE2 (v : Byte)
  /-- $E3: unofficial ISC (zp,X) (R296). -/
  | iscIndx (zp : Byte)
  /-- $E4: CPX zp (R189). -/
  | cpxZp (zp : Byte)
  /-- $E5: SBC zp (R182). -/
  | sbcZp (zp : Byte)
  /-- $E6: INC zp (R191). -/
  | incZp (zp : Byte)
  /-- $E7: unofficial ISC zp (R296). -/
  | iscZp (zp : Byte)
  /-- $E8: INX (R193). -/
  | inx
  /-- $E9: SBC # (R182). -/
  | sbcImm (v : Byte)
  /-- $EA: NOP (R271). -/
  | nop
  /-- $EB: unofficial SBC # (R299). -/
  | sbcImmEB (v : Byte)
  /-- $EC: CPX abs (R189). -/
  | cpxAbs (addr : Word)
  /-- $ED: SBC abs (R182). -/
  | sbcAbs (addr : Word)
  /-- $EE: INC abs (R191). -/
  | incAbs (addr : Word)
  /-- $EF: unofficial ISC abs (R296). -/
  | iscAbs (addr : Word)
  /-- $F0: BEQ rel (R233). -/
  | beq (off : Byte)
  /-- $F1: SBC (zp),Y (R182). -/
  | sbcIndy (zp : Byte)
  /-- $F3: unofficial ISC (zp),Y (R296). -/
  | iscIndy (zp : Byte)
  /-- $F4: unofficial NOP zp,X (R300). -/
  | nopZpxF4 (zp : Byte)
  /-- $F5: SBC zp,X (R182). -/
  | sbcZpx (zp : Byte)
  /-- $F6: INC zp,X (R191). -/
  | incZpx (zp : Byte)
  /-- $F7: unofficial ISC zp,X (R296). -/
  | iscZpx (zp : Byte)
  /-- $F8: SED (R269). -/
  | sed
  /-- $F9: SBC abs,Y (R182). -/
  | sbcAbsy (addr : Word)
  /-- $FA: unofficial NOP (R300). -/
  | nopImpFA
  /-- $FB: unofficial ISC abs,Y (R296). -/
  | iscAbsy (addr : Word)
  /-- $FC: unofficial NOP abs,X (R300). -/
  | nopAbsxFC (addr : Word)
  /-- $FD: SBC abs,X (R182). -/
  | sbcAbsx (addr : Word)
  /-- $FE: INC abs,X (R191). -/
  | incAbsx (addr : Word)
  /-- $FF: unofficial ISC abs,X (R296). -/
  | iscAbsx (addr : Word)
  /-- $02: unmapped (R112). -/
  | illegal02
  /-- $0B: unmapped (R112). -/
  | illegal0B
  /-- $12: unmapped (R112). -/
  | illegal12
  /-- $22: unmapped (R112). -/
  | illegal22
  /-- $2B: unmapped (R112). -/
  | illegal2B
  /-- $32: unmapped (R112). -/
  | illegal32
  /-- $42: unmapped (R112). -/
  | illegal42
  /-- $4B: unmapped (R112). -/
  | illegal4B
  /-- $52: unmapped (R112). -/
  | illegal52
  /-- $62: unmapped (R112). -/
  | illegal62
  /-- $6B: unmapped (R112). -/
  | illegal6B
  /-- $72: unmapped (R112). -/
  | illegal72
  /-- $8B: unmapped (R112). -/
  | illegal8B
  /-- $92: unmapped (R112). -/
  | illegal92
  /-- $93: unmapped (R112). -/
  | illegal93
  /-- $9B: unmapped (R112). -/
  | illegal9B
  /-- $9C: unmapped (R112). -/
  | illegal9C
  /-- $9E: unmapped (R112). -/
  | illegal9E
  /-- $9F: unmapped (R112). -/
  | illegal9F
  /-- $AB: unmapped (R112). -/
  | illegalAB
  /-- $B2: unmapped (R112). -/
  | illegalB2
  /-- $BB: unmapped (R112). -/
  | illegalBB
  /-- $CB: unmapped (R112). -/
  | illegalCB
  /-- $D2: unmapped (R112). -/
  | illegalD2
  /-- $F2: unmapped (R112). -/
  | illegalF2
deriving DecidableEq, Repr

end Sys2Proof
end

