-- ==== Sys2Proof/WellFormed.lean ====
section
/-! DEFINITION. The static checks of spec/30_encoding.md R114 and R116: what makes an entry of the opcode table, the
whole table and one row of it well formed. A model that builds its table from data refuses a table that fails them;
Decode.lean holds the table, and the checks on it are proved in Laws/Decode.lean. -/

namespace Sys2Proof

/-- The size of an instruction in a mode, the opcode byte included (R93). -/
def Mode.size : Mode → Nat
  | .imp | .acc => 1
  | .imm | .zp | .zpx | .zpy | .indx | .indy | .rel => 2
  | .abs | .absx | .absy | .ind => 3

/-- Whether the resolver can report a page cross in this mode (R95 to R107). -/
def Mode.canCross : Mode → Bool
  | .absx | .absy | .indy => true
  | .imp | .acc | .imm | .zp | .zpx | .zpy | .abs | .ind | .indx | .rel => false

/-- The InstructionDescriptor's map from each mode to its opcode byte (R114), from the Operands and Encoding lines of
the instruction rules R151 to R300. The unofficial NOPs have several bytes to a mode, which R114 exempts. -/
def Mnemonic.modes : Mnemonic → List (Mode × Byte)
  | .lda => [(.imm, 0xA9), (.zp, 0xA5), (.zpx, 0xB5), (.abs, 0xAD), (.absx, 0xBD), (.absy, 0xB9), (.indx, 0xA1), (.indy, 0xB1)]
  | .ldx => [(.imm, 0xA2), (.zp, 0xA6), (.zpy, 0xB6), (.abs, 0xAE), (.absy, 0xBE)]
  | .ldy => [(.imm, 0xA0), (.zp, 0xA4), (.zpx, 0xB4), (.abs, 0xAC), (.absx, 0xBC)]
  | .sta => [(.zp, 0x85), (.zpx, 0x95), (.abs, 0x8D), (.absx, 0x9D), (.absy, 0x99), (.indx, 0x81), (.indy, 0x91)]
  | .stx => [(.zp, 0x86), (.zpy, 0x96), (.abs, 0x8E)]
  | .sty => [(.zp, 0x84), (.zpx, 0x94), (.abs, 0x8C)]
  | .tax => [(.imp, 0xAA)]
  | .tay => [(.imp, 0xA8)]
  | .txa => [(.imp, 0x8A)]
  | .tya => [(.imp, 0x98)]
  | .tsx => [(.imp, 0xBA)]
  | .txs => [(.imp, 0x9A)]
  | .adc => [(.imm, 0x69), (.zp, 0x65), (.zpx, 0x75), (.abs, 0x6D), (.absx, 0x7D), (.absy, 0x79), (.indx, 0x61), (.indy, 0x71)]
  | .sbc => [(.imm, 0xE9), (.zp, 0xE5), (.zpx, 0xF5), (.abs, 0xED), (.absx, 0xFD), (.absy, 0xF9), (.indx, 0xE1), (.indy, 0xF1)]
  | .and => [(.imm, 0x29), (.zp, 0x25), (.zpx, 0x35), (.abs, 0x2D), (.absx, 0x3D), (.absy, 0x39), (.indx, 0x21), (.indy, 0x31)]
  | .ora => [(.imm, 0x09), (.zp, 0x05), (.zpx, 0x15), (.abs, 0x0D), (.absx, 0x1D), (.absy, 0x19), (.indx, 0x01), (.indy, 0x11)]
  | .eor => [(.imm, 0x49), (.zp, 0x45), (.zpx, 0x55), (.abs, 0x4D), (.absx, 0x5D), (.absy, 0x59), (.indx, 0x41), (.indy, 0x51)]
  | .bit => [(.zp, 0x24), (.abs, 0x2C)]
  | .cmp => [(.imm, 0xC9), (.zp, 0xC5), (.zpx, 0xD5), (.abs, 0xCD), (.absx, 0xDD), (.absy, 0xD9), (.indx, 0xC1), (.indy, 0xD1)]
  | .cpx => [(.imm, 0xE0), (.zp, 0xE4), (.abs, 0xEC)]
  | .cpy => [(.imm, 0xC0), (.zp, 0xC4), (.abs, 0xCC)]
  | .inc => [(.zp, 0xE6), (.zpx, 0xF6), (.abs, 0xEE), (.absx, 0xFE)]
  | .dec => [(.zp, 0xC6), (.zpx, 0xD6), (.abs, 0xCE), (.absx, 0xDE)]
  | .inx => [(.imp, 0xE8)]
  | .iny => [(.imp, 0xC8)]
  | .dex => [(.imp, 0xCA)]
  | .dey => [(.imp, 0x88)]
  | .asl => [(.acc, 0x0A), (.zp, 0x06), (.zpx, 0x16), (.abs, 0x0E), (.absx, 0x1E)]
  | .lsr => [(.acc, 0x4A), (.zp, 0x46), (.zpx, 0x56), (.abs, 0x4E), (.absx, 0x5E)]
  | .rol => [(.acc, 0x2A), (.zp, 0x26), (.zpx, 0x36), (.abs, 0x2E), (.absx, 0x3E)]
  | .ror => [(.acc, 0x6A), (.zp, 0x66), (.zpx, 0x76), (.abs, 0x6E), (.absx, 0x7E)]
  | .bcc => [(.rel, 0x90)]
  | .bcs => [(.rel, 0xB0)]
  | .beq => [(.rel, 0xF0)]
  | .bmi => [(.rel, 0x30)]
  | .bne => [(.rel, 0xD0)]
  | .bpl => [(.rel, 0x10)]
  | .bvc => [(.rel, 0x50)]
  | .bvs => [(.rel, 0x70)]
  | .jmp => [(.abs, 0x4C), (.ind, 0x6C)]
  | .jsr => [(.abs, 0x20)]
  | .rts => [(.imp, 0x60)]
  | .pha => [(.imp, 0x48)]
  | .php => [(.imp, 0x08)]
  | .pla => [(.imp, 0x68)]
  | .plp => [(.imp, 0x28)]
  | .clc => [(.imp, 0x18)]
  | .cld => [(.imp, 0xD8)]
  | .cli => [(.imp, 0x58)]
  | .clv => [(.imp, 0xB8)]
  | .sec => [(.imp, 0x38)]
  | .sed => [(.imp, 0xF8)]
  | .sei => [(.imp, 0x78)]
  | .nop => [(.imp, 0xEA)]
  | .brk => [(.imp, 0x00)]
  | .rti => [(.imp, 0x40)]
  | .slo => [(.zp, 0x07), (.zpx, 0x17), (.abs, 0x0F), (.absx, 0x1F), (.absy, 0x1B), (.indx, 0x03), (.indy, 0x13)]
  | .rla => [(.zp, 0x27), (.zpx, 0x37), (.abs, 0x2F), (.absx, 0x3F), (.absy, 0x3B), (.indx, 0x23), (.indy, 0x33)]
  | .sre => [(.zp, 0x47), (.zpx, 0x57), (.abs, 0x4F), (.absx, 0x5F), (.absy, 0x5B), (.indx, 0x43), (.indy, 0x53)]
  | .rra => [(.zp, 0x67), (.zpx, 0x77), (.abs, 0x6F), (.absx, 0x7F), (.absy, 0x7B), (.indx, 0x63), (.indy, 0x73)]
  | .dcp => [(.zp, 0xC7), (.zpx, 0xD7), (.abs, 0xCF), (.absx, 0xDF), (.absy, 0xDB), (.indx, 0xC3), (.indy, 0xD3)]
  | .isc => [(.zp, 0xE7), (.zpx, 0xF7), (.abs, 0xEF), (.absx, 0xFF), (.absy, 0xFB), (.indx, 0xE3), (.indy, 0xF3)]
  | .lax => [(.zp, 0xA7), (.zpy, 0xB7), (.abs, 0xAF), (.absy, 0xBF), (.indx, 0xA3), (.indy, 0xB3)]
  | .sax => [(.zp, 0x87), (.zpy, 0x97), (.abs, 0x8F), (.indx, 0x83)]
  | .sbcUnofficial => [(.imm, 0xEB)]
  | .nopUnofficial => [(.imp, 0x1A), (.imp, 0x3A), (.imp, 0x5A), (.imp, 0x7A), (.imp, 0xDA), (.imp, 0xFA), (.imm, 0x80), (.imm, 0x82), (.imm, 0x89),
      (.imm, 0xC2), (.imm, 0xE2), (.zp, 0x04), (.zp, 0x44), (.zp, 0x64), (.zpx, 0x14), (.zpx, 0x34), (.zpx, 0x54), (.zpx, 0x74),
      (.zpx, 0xD4), (.zpx, 0xF4), (.abs, 0x0C), (.absx, 0x1C), (.absx, 0x3C), (.absx, 0x5C), (.absx, 0x7C), (.absx, 0xDC), (.absx, 0xFC)]

/-- Whether every entry of the instruction is unofficial (R113). -/
def Mnemonic.unofficial : Mnemonic → Bool
  | .slo | .rla | .sre | .rra | .dcp | .isc | .lax | .sax | .sbcUnofficial | .nopUnofficial => true
  | _ => false

/-- R114: the entry's mode appears in its instruction's map with the table index as its opcode; for the unofficial
NOPs, whose bytes share modes, the mode appears in the map. -/
def Entry.modeMapped (op : Byte) (e : Entry) : Bool :=
  match e.instr with
  | .nopUnofficial => e.instr.modes.any (fun m => m.1 == e.mode)
  | _ => e.instr.modes.lookup e.mode == some op

/-- R91: the size is the mode's, and 2 for BRK. -/
def Entry.sizeRight (e : Entry) : Bool :=
  e.size == (if e.instr = .brk then 2 else e.mode.size)

/-- R5 and conflict C6: the document bounds the base cycles as 1 to 8. -/
def Entry.cyclesInRange (e : Entry) : Bool :=
  decide (1 ≤ e.cycles) && decide (e.cycles ≤ 8)

/-- R118: only a mode whose resolver can report a page cross may carry the page-cross flag. -/
def Entry.crossRight (e : Entry) : Bool :=
  !e.pageCross || e.mode.canCross

/-- R113: the unofficial marker is the instruction's. -/
def Entry.markerRight (e : Entry) : Bool :=
  e.unofficial == e.instr.unofficial

/-- All the checks of one entry of the table, at its index. -/
def Entry.wellFormed (op : Byte) (e : Entry) : Bool :=
  e.modeMapped op && e.sizeRight && e.cyclesInRange && e.crossRight && e.markerRight

/-- R114, R116: every mapped entry of a table passes its checks. -/
def tableWellFormed (table : Byte → Option Entry) : Bool :=
  (List.range 256).all fun n =>
    match table (BitVec.ofNat 8 n) with
    | some e => e.wellFormed (BitVec.ofNat 8 n)
    | none => true

/-- One row as an instruction uses it: a mapped entry that passes its checks and whose mode is the form's, or an
unmapped byte, which has no operand (R112, R115). -/
def rowWellFormed (op : Byte) (row : Option Entry) (f : Form) : Bool :=
  match row with
  | some e => e.wellFormed op && e.mode == f.mode
  | none => f == .imp

end Sys2Proof
end

