-- ==== Sys2Proof/Decode.lean ====
section
/-! DEFINITION. The opcode table of spec/30_encoding.md R111, the decoder (R115), and the encoder written from the same
listing. The decoder is total on any bytes and refuses a stream that ends early by name. -/

namespace Sys2Proof

/-- `{h, l}` (R6): the word whose high byte is `h` and low byte is `l`. -/
def wordOf (h l : Byte) : Word := h ++ l

/-- `lo(w)` (R6). -/
def lo (w : Word) : Byte := w.setWidth 8

/-- `hi(w)` (R6). -/
def hi (w : Word) : Byte := (w >>> 8).setWidth 8

/-- Row $0x of the opcode map (R111): instruction, mode, size, base cycles, page-cross flag, unofficial marker. -/
def tableRow0 : Nat → Option Entry
  | 0x0 => some ⟨.brk, .imp, 2, 7, false, false⟩
  | 0x1 => some ⟨.ora, .indx, 2, 6, false, false⟩
  | 0x2 => none
  | 0x3 => some ⟨.slo, .indx, 2, 8, false, true⟩
  | 0x4 => some ⟨.nopUnofficial, .zp, 2, 3, false, true⟩
  | 0x5 => some ⟨.ora, .zp, 2, 3, false, false⟩
  | 0x6 => some ⟨.asl, .zp, 2, 5, false, false⟩
  | 0x7 => some ⟨.slo, .zp, 2, 5, false, true⟩
  | 0x8 => some ⟨.php, .imp, 1, 3, false, false⟩
  | 0x9 => some ⟨.ora, .imm, 2, 2, false, false⟩
  | 0xA => some ⟨.asl, .acc, 1, 2, false, false⟩
  | 0xB => none
  | 0xC => some ⟨.nopUnofficial, .abs, 3, 4, false, true⟩
  | 0xD => some ⟨.ora, .abs, 3, 4, false, false⟩
  | 0xE => some ⟨.asl, .abs, 3, 6, false, false⟩
  | _ => some ⟨.slo, .abs, 3, 6, false, true⟩

/-- Row $1x of the opcode map (R111): instruction, mode, size, base cycles, page-cross flag, unofficial marker. -/
def tableRow1 : Nat → Option Entry
  | 0x0 => some ⟨.bpl, .rel, 2, 2, false, false⟩
  | 0x1 => some ⟨.ora, .indy, 2, 5, true, false⟩
  | 0x2 => none
  | 0x3 => some ⟨.slo, .indy, 2, 8, false, true⟩
  | 0x4 => some ⟨.nopUnofficial, .zpx, 2, 4, false, true⟩
  | 0x5 => some ⟨.ora, .zpx, 2, 4, false, false⟩
  | 0x6 => some ⟨.asl, .zpx, 2, 6, false, false⟩
  | 0x7 => some ⟨.slo, .zpx, 2, 6, false, true⟩
  | 0x8 => some ⟨.clc, .imp, 1, 2, false, false⟩
  | 0x9 => some ⟨.ora, .absy, 3, 4, true, false⟩
  | 0xA => some ⟨.nopUnofficial, .imp, 1, 2, false, true⟩
  | 0xB => some ⟨.slo, .absy, 3, 7, false, true⟩
  | 0xC => some ⟨.nopUnofficial, .absx, 3, 4, true, true⟩
  | 0xD => some ⟨.ora, .absx, 3, 4, true, false⟩
  | 0xE => some ⟨.asl, .absx, 3, 7, false, false⟩
  | _ => some ⟨.slo, .absx, 3, 7, false, true⟩

/-- Row $2x of the opcode map (R111): instruction, mode, size, base cycles, page-cross flag, unofficial marker. -/
def tableRow2 : Nat → Option Entry
  | 0x0 => some ⟨.jsr, .abs, 3, 6, false, false⟩
  | 0x1 => some ⟨.and, .indx, 2, 6, false, false⟩
  | 0x2 => none
  | 0x3 => some ⟨.rla, .indx, 2, 8, false, true⟩
  | 0x4 => some ⟨.bit, .zp, 2, 3, false, false⟩
  | 0x5 => some ⟨.and, .zp, 2, 3, false, false⟩
  | 0x6 => some ⟨.rol, .zp, 2, 5, false, false⟩
  | 0x7 => some ⟨.rla, .zp, 2, 5, false, true⟩
  | 0x8 => some ⟨.plp, .imp, 1, 4, false, false⟩
  | 0x9 => some ⟨.and, .imm, 2, 2, false, false⟩
  | 0xA => some ⟨.rol, .acc, 1, 2, false, false⟩
  | 0xB => none
  | 0xC => some ⟨.bit, .abs, 3, 4, false, false⟩
  | 0xD => some ⟨.and, .abs, 3, 4, false, false⟩
  | 0xE => some ⟨.rol, .abs, 3, 6, false, false⟩
  | _ => some ⟨.rla, .abs, 3, 6, false, true⟩

/-- Row $3x of the opcode map (R111): instruction, mode, size, base cycles, page-cross flag, unofficial marker. -/
def tableRow3 : Nat → Option Entry
  | 0x0 => some ⟨.bmi, .rel, 2, 2, false, false⟩
  | 0x1 => some ⟨.and, .indy, 2, 5, true, false⟩
  | 0x2 => none
  | 0x3 => some ⟨.rla, .indy, 2, 8, false, true⟩
  | 0x4 => some ⟨.nopUnofficial, .zpx, 2, 4, false, true⟩
  | 0x5 => some ⟨.and, .zpx, 2, 4, false, false⟩
  | 0x6 => some ⟨.rol, .zpx, 2, 6, false, false⟩
  | 0x7 => some ⟨.rla, .zpx, 2, 6, false, true⟩
  | 0x8 => some ⟨.sec, .imp, 1, 2, false, false⟩
  | 0x9 => some ⟨.and, .absy, 3, 4, true, false⟩
  | 0xA => some ⟨.nopUnofficial, .imp, 1, 2, false, true⟩
  | 0xB => some ⟨.rla, .absy, 3, 7, false, true⟩
  | 0xC => some ⟨.nopUnofficial, .absx, 3, 4, true, true⟩
  | 0xD => some ⟨.and, .absx, 3, 4, true, false⟩
  | 0xE => some ⟨.rol, .absx, 3, 7, false, false⟩
  | _ => some ⟨.rla, .absx, 3, 7, false, true⟩

/-- Row $4x of the opcode map (R111): instruction, mode, size, base cycles, page-cross flag, unofficial marker. -/
def tableRow4 : Nat → Option Entry
  | 0x0 => some ⟨.rti, .imp, 1, 6, false, false⟩
  | 0x1 => some ⟨.eor, .indx, 2, 6, false, false⟩
  | 0x2 => none
  | 0x3 => some ⟨.sre, .indx, 2, 8, false, true⟩
  | 0x4 => some ⟨.nopUnofficial, .zp, 2, 3, false, true⟩
  | 0x5 => some ⟨.eor, .zp, 2, 3, false, false⟩
  | 0x6 => some ⟨.lsr, .zp, 2, 5, false, false⟩
  | 0x7 => some ⟨.sre, .zp, 2, 5, false, true⟩
  | 0x8 => some ⟨.pha, .imp, 1, 3, false, false⟩
  | 0x9 => some ⟨.eor, .imm, 2, 2, false, false⟩
  | 0xA => some ⟨.lsr, .acc, 1, 2, false, false⟩
  | 0xB => none
  | 0xC => some ⟨.jmp, .abs, 3, 3, false, false⟩
  | 0xD => some ⟨.eor, .abs, 3, 4, false, false⟩
  | 0xE => some ⟨.lsr, .abs, 3, 6, false, false⟩
  | _ => some ⟨.sre, .abs, 3, 6, false, true⟩

/-- Row $5x of the opcode map (R111): instruction, mode, size, base cycles, page-cross flag, unofficial marker. -/
def tableRow5 : Nat → Option Entry
  | 0x0 => some ⟨.bvc, .rel, 2, 2, false, false⟩
  | 0x1 => some ⟨.eor, .indy, 2, 5, true, false⟩
  | 0x2 => none
  | 0x3 => some ⟨.sre, .indy, 2, 8, false, true⟩
  | 0x4 => some ⟨.nopUnofficial, .zpx, 2, 4, false, true⟩
  | 0x5 => some ⟨.eor, .zpx, 2, 4, false, false⟩
  | 0x6 => some ⟨.lsr, .zpx, 2, 6, false, false⟩
  | 0x7 => some ⟨.sre, .zpx, 2, 6, false, true⟩
  | 0x8 => some ⟨.cli, .imp, 1, 2, false, false⟩
  | 0x9 => some ⟨.eor, .absy, 3, 4, true, false⟩
  | 0xA => some ⟨.nopUnofficial, .imp, 1, 2, false, true⟩
  | 0xB => some ⟨.sre, .absy, 3, 7, false, true⟩
  | 0xC => some ⟨.nopUnofficial, .absx, 3, 4, true, true⟩
  | 0xD => some ⟨.eor, .absx, 3, 4, true, false⟩
  | 0xE => some ⟨.lsr, .absx, 3, 7, false, false⟩
  | _ => some ⟨.sre, .absx, 3, 7, false, true⟩

/-- Row $6x of the opcode map (R111): instruction, mode, size, base cycles, page-cross flag, unofficial marker. -/
def tableRow6 : Nat → Option Entry
  | 0x0 => some ⟨.rts, .imp, 1, 6, false, false⟩
  | 0x1 => some ⟨.adc, .indx, 2, 6, false, false⟩
  | 0x2 => none
  | 0x3 => some ⟨.rra, .indx, 2, 8, false, true⟩
  | 0x4 => some ⟨.nopUnofficial, .zp, 2, 3, false, true⟩
  | 0x5 => some ⟨.adc, .zp, 2, 3, false, false⟩
  | 0x6 => some ⟨.ror, .zp, 2, 5, false, false⟩
  | 0x7 => some ⟨.rra, .zp, 2, 5, false, true⟩
  | 0x8 => some ⟨.pla, .imp, 1, 4, false, false⟩
  | 0x9 => some ⟨.adc, .imm, 2, 2, false, false⟩
  | 0xA => some ⟨.ror, .acc, 1, 2, false, false⟩
  | 0xB => none
  | 0xC => some ⟨.jmp, .ind, 3, 5, false, false⟩
  | 0xD => some ⟨.adc, .abs, 3, 4, false, false⟩
  | 0xE => some ⟨.ror, .abs, 3, 6, false, false⟩
  | _ => some ⟨.rra, .abs, 3, 6, false, true⟩

/-- Row $7x of the opcode map (R111): instruction, mode, size, base cycles, page-cross flag, unofficial marker. -/
def tableRow7 : Nat → Option Entry
  | 0x0 => some ⟨.bvs, .rel, 2, 2, false, false⟩
  | 0x1 => some ⟨.adc, .indy, 2, 5, true, false⟩
  | 0x2 => none
  | 0x3 => some ⟨.rra, .indy, 2, 8, false, true⟩
  | 0x4 => some ⟨.nopUnofficial, .zpx, 2, 4, false, true⟩
  | 0x5 => some ⟨.adc, .zpx, 2, 4, false, false⟩
  | 0x6 => some ⟨.ror, .zpx, 2, 6, false, false⟩
  | 0x7 => some ⟨.rra, .zpx, 2, 6, false, true⟩
  | 0x8 => some ⟨.sei, .imp, 1, 2, false, false⟩
  | 0x9 => some ⟨.adc, .absy, 3, 4, true, false⟩
  | 0xA => some ⟨.nopUnofficial, .imp, 1, 2, false, true⟩
  | 0xB => some ⟨.rra, .absy, 3, 7, false, true⟩
  | 0xC => some ⟨.nopUnofficial, .absx, 3, 4, true, true⟩
  | 0xD => some ⟨.adc, .absx, 3, 4, true, false⟩
  | 0xE => some ⟨.ror, .absx, 3, 7, false, false⟩
  | _ => some ⟨.rra, .absx, 3, 7, false, true⟩

/-- Row $8x of the opcode map (R111): instruction, mode, size, base cycles, page-cross flag, unofficial marker. -/
def tableRow8 : Nat → Option Entry
  | 0x0 => some ⟨.nopUnofficial, .imm, 2, 2, false, true⟩
  | 0x1 => some ⟨.sta, .indx, 2, 6, false, false⟩
  | 0x2 => some ⟨.nopUnofficial, .imm, 2, 2, false, true⟩
  | 0x3 => some ⟨.sax, .indx, 2, 6, false, true⟩
  | 0x4 => some ⟨.sty, .zp, 2, 3, false, false⟩
  | 0x5 => some ⟨.sta, .zp, 2, 3, false, false⟩
  | 0x6 => some ⟨.stx, .zp, 2, 3, false, false⟩
  | 0x7 => some ⟨.sax, .zp, 2, 3, false, true⟩
  | 0x8 => some ⟨.dey, .imp, 1, 2, false, false⟩
  | 0x9 => some ⟨.nopUnofficial, .imm, 2, 2, false, true⟩
  | 0xA => some ⟨.txa, .imp, 1, 2, false, false⟩
  | 0xB => none
  | 0xC => some ⟨.sty, .abs, 3, 4, false, false⟩
  | 0xD => some ⟨.sta, .abs, 3, 4, false, false⟩
  | 0xE => some ⟨.stx, .abs, 3, 4, false, false⟩
  | _ => some ⟨.sax, .abs, 3, 4, false, true⟩

/-- Row $9x of the opcode map (R111): instruction, mode, size, base cycles, page-cross flag, unofficial marker. -/
def tableRow9 : Nat → Option Entry
  | 0x0 => some ⟨.bcc, .rel, 2, 2, false, false⟩
  | 0x1 => some ⟨.sta, .indy, 2, 6, false, false⟩
  | 0x2 => none
  | 0x3 => none
  | 0x4 => some ⟨.sty, .zpx, 2, 4, false, false⟩
  | 0x5 => some ⟨.sta, .zpx, 2, 4, false, false⟩
  | 0x6 => some ⟨.stx, .zpy, 2, 4, false, false⟩
  | 0x7 => some ⟨.sax, .zpy, 2, 4, false, true⟩
  | 0x8 => some ⟨.tya, .imp, 1, 2, false, false⟩
  | 0x9 => some ⟨.sta, .absy, 3, 5, false, false⟩
  | 0xA => some ⟨.txs, .imp, 1, 2, false, false⟩
  | 0xB => none
  | 0xC => none
  | 0xD => some ⟨.sta, .absx, 3, 5, false, false⟩
  | 0xE => none
  | _ => none

/-- Row $Ax of the opcode map (R111): instruction, mode, size, base cycles, page-cross flag, unofficial marker. -/
def tableRowA : Nat → Option Entry
  | 0x0 => some ⟨.ldy, .imm, 2, 2, false, false⟩
  | 0x1 => some ⟨.lda, .indx, 2, 6, false, false⟩
  | 0x2 => some ⟨.ldx, .imm, 2, 2, false, false⟩
  | 0x3 => some ⟨.lax, .indx, 2, 6, false, true⟩
  | 0x4 => some ⟨.ldy, .zp, 2, 3, false, false⟩
  | 0x5 => some ⟨.lda, .zp, 2, 3, false, false⟩
  | 0x6 => some ⟨.ldx, .zp, 2, 3, false, false⟩
  | 0x7 => some ⟨.lax, .zp, 2, 3, false, true⟩
  | 0x8 => some ⟨.tay, .imp, 1, 2, false, false⟩
  | 0x9 => some ⟨.lda, .imm, 2, 2, false, false⟩
  | 0xA => some ⟨.tax, .imp, 1, 2, false, false⟩
  | 0xB => none
  | 0xC => some ⟨.ldy, .abs, 3, 4, false, false⟩
  | 0xD => some ⟨.lda, .abs, 3, 4, false, false⟩
  | 0xE => some ⟨.ldx, .abs, 3, 4, false, false⟩
  | _ => some ⟨.lax, .abs, 3, 4, false, true⟩

/-- Row $Bx of the opcode map (R111): instruction, mode, size, base cycles, page-cross flag, unofficial marker. -/
def tableRowB : Nat → Option Entry
  | 0x0 => some ⟨.bcs, .rel, 2, 2, false, false⟩
  | 0x1 => some ⟨.lda, .indy, 2, 5, true, false⟩
  | 0x2 => none
  | 0x3 => some ⟨.lax, .indy, 2, 5, true, true⟩
  | 0x4 => some ⟨.ldy, .zpx, 2, 4, false, false⟩
  | 0x5 => some ⟨.lda, .zpx, 2, 4, false, false⟩
  | 0x6 => some ⟨.ldx, .zpy, 2, 4, false, false⟩
  | 0x7 => some ⟨.lax, .zpy, 2, 4, false, true⟩
  | 0x8 => some ⟨.clv, .imp, 1, 2, false, false⟩
  | 0x9 => some ⟨.lda, .absy, 3, 4, true, false⟩
  | 0xA => some ⟨.tsx, .imp, 1, 2, false, false⟩
  | 0xB => none
  | 0xC => some ⟨.ldy, .absx, 3, 4, true, false⟩
  | 0xD => some ⟨.lda, .absx, 3, 4, true, false⟩
  | 0xE => some ⟨.ldx, .absy, 3, 4, true, false⟩
  | _ => some ⟨.lax, .absy, 3, 4, true, true⟩

/-- Row $Cx of the opcode map (R111): instruction, mode, size, base cycles, page-cross flag, unofficial marker. -/
def tableRowC : Nat → Option Entry
  | 0x0 => some ⟨.cpy, .imm, 2, 2, false, false⟩
  | 0x1 => some ⟨.cmp, .indx, 2, 6, false, false⟩
  | 0x2 => some ⟨.nopUnofficial, .imm, 2, 2, false, true⟩
  | 0x3 => some ⟨.dcp, .indx, 2, 8, false, true⟩
  | 0x4 => some ⟨.cpy, .zp, 2, 3, false, false⟩
  | 0x5 => some ⟨.cmp, .zp, 2, 3, false, false⟩
  | 0x6 => some ⟨.dec, .zp, 2, 5, false, false⟩
  | 0x7 => some ⟨.dcp, .zp, 2, 5, false, true⟩
  | 0x8 => some ⟨.iny, .imp, 1, 2, false, false⟩
  | 0x9 => some ⟨.cmp, .imm, 2, 2, false, false⟩
  | 0xA => some ⟨.dex, .imp, 1, 2, false, false⟩
  | 0xB => none
  | 0xC => some ⟨.cpy, .abs, 3, 4, false, false⟩
  | 0xD => some ⟨.cmp, .abs, 3, 4, false, false⟩
  | 0xE => some ⟨.dec, .abs, 3, 6, false, false⟩
  | _ => some ⟨.dcp, .abs, 3, 6, false, true⟩

/-- Row $Dx of the opcode map (R111): instruction, mode, size, base cycles, page-cross flag, unofficial marker. -/
def tableRowD : Nat → Option Entry
  | 0x0 => some ⟨.bne, .rel, 2, 2, false, false⟩
  | 0x1 => some ⟨.cmp, .indy, 2, 5, true, false⟩
  | 0x2 => none
  | 0x3 => some ⟨.dcp, .indy, 2, 8, false, true⟩
  | 0x4 => some ⟨.nopUnofficial, .zpx, 2, 4, false, true⟩
  | 0x5 => some ⟨.cmp, .zpx, 2, 4, false, false⟩
  | 0x6 => some ⟨.dec, .zpx, 2, 6, false, false⟩
  | 0x7 => some ⟨.dcp, .zpx, 2, 6, false, true⟩
  | 0x8 => some ⟨.cld, .imp, 1, 2, false, false⟩
  | 0x9 => some ⟨.cmp, .absy, 3, 4, true, false⟩
  | 0xA => some ⟨.nopUnofficial, .imp, 1, 2, false, true⟩
  | 0xB => some ⟨.dcp, .absy, 3, 7, false, true⟩
  | 0xC => some ⟨.nopUnofficial, .absx, 3, 4, true, true⟩
  | 0xD => some ⟨.cmp, .absx, 3, 4, true, false⟩
  | 0xE => some ⟨.dec, .absx, 3, 7, false, false⟩
  | _ => some ⟨.dcp, .absx, 3, 7, false, true⟩

/-- Row $Ex of the opcode map (R111): instruction, mode, size, base cycles, page-cross flag, unofficial marker. -/
def tableRowE : Nat → Option Entry
  | 0x0 => some ⟨.cpx, .imm, 2, 2, false, false⟩
  | 0x1 => some ⟨.sbc, .indx, 2, 6, false, false⟩
  | 0x2 => some ⟨.nopUnofficial, .imm, 2, 2, false, true⟩
  | 0x3 => some ⟨.isc, .indx, 2, 8, false, true⟩
  | 0x4 => some ⟨.cpx, .zp, 2, 3, false, false⟩
  | 0x5 => some ⟨.sbc, .zp, 2, 3, false, false⟩
  | 0x6 => some ⟨.inc, .zp, 2, 5, false, false⟩
  | 0x7 => some ⟨.isc, .zp, 2, 5, false, true⟩
  | 0x8 => some ⟨.inx, .imp, 1, 2, false, false⟩
  | 0x9 => some ⟨.sbc, .imm, 2, 2, false, false⟩
  | 0xA => some ⟨.nop, .imp, 1, 2, false, false⟩
  | 0xB => some ⟨.sbcUnofficial, .imm, 2, 2, false, true⟩
  | 0xC => some ⟨.cpx, .abs, 3, 4, false, false⟩
  | 0xD => some ⟨.sbc, .abs, 3, 4, false, false⟩
  | 0xE => some ⟨.inc, .abs, 3, 6, false, false⟩
  | _ => some ⟨.isc, .abs, 3, 6, false, true⟩

/-- Row $Fx of the opcode map (R111): instruction, mode, size, base cycles, page-cross flag, unofficial marker. -/
def tableRowF : Nat → Option Entry
  | 0x0 => some ⟨.beq, .rel, 2, 2, false, false⟩
  | 0x1 => some ⟨.sbc, .indy, 2, 5, true, false⟩
  | 0x2 => none
  | 0x3 => some ⟨.isc, .indy, 2, 8, false, true⟩
  | 0x4 => some ⟨.nopUnofficial, .zpx, 2, 4, false, true⟩
  | 0x5 => some ⟨.sbc, .zpx, 2, 4, false, false⟩
  | 0x6 => some ⟨.inc, .zpx, 2, 6, false, false⟩
  | 0x7 => some ⟨.isc, .zpx, 2, 6, false, true⟩
  | 0x8 => some ⟨.sed, .imp, 1, 2, false, false⟩
  | 0x9 => some ⟨.sbc, .absy, 3, 4, true, false⟩
  | 0xA => some ⟨.nopUnofficial, .imp, 1, 2, false, true⟩
  | 0xB => some ⟨.isc, .absy, 3, 7, false, true⟩
  | 0xC => some ⟨.nopUnofficial, .absx, 3, 4, true, true⟩
  | 0xD => some ⟨.sbc, .absx, 3, 4, true, false⟩
  | 0xE => some ⟨.inc, .absx, 3, 7, false, false⟩
  | _ => some ⟨.isc, .absx, 3, 7, false, true⟩

/-- The high nibble of an opcode byte, the row of the opcode map. -/
def hiNibble (op : Byte) : Nat := op.toNat / 16

/-- The low nibble of an opcode byte, the column of the opcode map. -/
def loNibble (op : Byte) : Nat := op.toNat % 16

/-- The opcode table (R110, R111): the entry of each opcode byte, none where it is unmapped (R112). -/
def opcodeTable (op : Byte) : Option Entry :=
  match hiNibble op with
  | 0x0 => tableRow0 (loNibble op)
  | 0x1 => tableRow1 (loNibble op)
  | 0x2 => tableRow2 (loNibble op)
  | 0x3 => tableRow3 (loNibble op)
  | 0x4 => tableRow4 (loNibble op)
  | 0x5 => tableRow5 (loNibble op)
  | 0x6 => tableRow6 (loNibble op)
  | 0x7 => tableRow7 (loNibble op)
  | 0x8 => tableRow8 (loNibble op)
  | 0x9 => tableRow9 (loNibble op)
  | 0xA => tableRowA (loNibble op)
  | 0xB => tableRowB (loNibble op)
  | 0xC => tableRowC (loNibble op)
  | 0xD => tableRowD (loNibble op)
  | 0xE => tableRowE (loNibble op)
  | _ => tableRowF (loNibble op)

/-- What an opcode byte begins: an instruction that reads no operand byte, or one that waits for an operand byte, or
for two of them as a little-endian word (R90, R92). -/
inductive Shape where
  | bare (i : Instr)
  | byte (f : Byte → Instr)
  | word (f : Word → Instr)

/-- Row $0x of the opcode map, as the instructions its bytes begin. -/
def shapeRow0 : Nat → Shape
  | 0x0 => .bare .brk
  | 0x1 => .byte .oraIndx
  | 0x2 => .bare .illegal02
  | 0x3 => .byte .sloIndx
  | 0x4 => .byte .nopZp04
  | 0x5 => .byte .oraZp
  | 0x6 => .byte .aslZp
  | 0x7 => .byte .sloZp
  | 0x8 => .bare .php
  | 0x9 => .byte .oraImm
  | 0xA => .bare .aslAcc
  | 0xB => .bare .illegal0B
  | 0xC => .word .nopAbs0C
  | 0xD => .word .oraAbs
  | 0xE => .word .aslAbs
  | _ => .word .sloAbs

/-- Row $1x of the opcode map, as the instructions its bytes begin. -/
def shapeRow1 : Nat → Shape
  | 0x0 => .byte .bpl
  | 0x1 => .byte .oraIndy
  | 0x2 => .bare .illegal12
  | 0x3 => .byte .sloIndy
  | 0x4 => .byte .nopZpx14
  | 0x5 => .byte .oraZpx
  | 0x6 => .byte .aslZpx
  | 0x7 => .byte .sloZpx
  | 0x8 => .bare .clc
  | 0x9 => .word .oraAbsy
  | 0xA => .bare .nopImp1A
  | 0xB => .word .sloAbsy
  | 0xC => .word .nopAbsx1C
  | 0xD => .word .oraAbsx
  | 0xE => .word .aslAbsx
  | _ => .word .sloAbsx

/-- Row $2x of the opcode map, as the instructions its bytes begin. -/
def shapeRow2 : Nat → Shape
  | 0x0 => .word .jsr
  | 0x1 => .byte .andIndx
  | 0x2 => .bare .illegal22
  | 0x3 => .byte .rlaIndx
  | 0x4 => .byte .bitZp
  | 0x5 => .byte .andZp
  | 0x6 => .byte .rolZp
  | 0x7 => .byte .rlaZp
  | 0x8 => .bare .plp
  | 0x9 => .byte .andImm
  | 0xA => .bare .rolAcc
  | 0xB => .bare .illegal2B
  | 0xC => .word .bitAbs
  | 0xD => .word .andAbs
  | 0xE => .word .rolAbs
  | _ => .word .rlaAbs

/-- Row $3x of the opcode map, as the instructions its bytes begin. -/
def shapeRow3 : Nat → Shape
  | 0x0 => .byte .bmi
  | 0x1 => .byte .andIndy
  | 0x2 => .bare .illegal32
  | 0x3 => .byte .rlaIndy
  | 0x4 => .byte .nopZpx34
  | 0x5 => .byte .andZpx
  | 0x6 => .byte .rolZpx
  | 0x7 => .byte .rlaZpx
  | 0x8 => .bare .sec
  | 0x9 => .word .andAbsy
  | 0xA => .bare .nopImp3A
  | 0xB => .word .rlaAbsy
  | 0xC => .word .nopAbsx3C
  | 0xD => .word .andAbsx
  | 0xE => .word .rolAbsx
  | _ => .word .rlaAbsx

/-- Row $4x of the opcode map, as the instructions its bytes begin. -/
def shapeRow4 : Nat → Shape
  | 0x0 => .bare .rti
  | 0x1 => .byte .eorIndx
  | 0x2 => .bare .illegal42
  | 0x3 => .byte .sreIndx
  | 0x4 => .byte .nopZp44
  | 0x5 => .byte .eorZp
  | 0x6 => .byte .lsrZp
  | 0x7 => .byte .sreZp
  | 0x8 => .bare .pha
  | 0x9 => .byte .eorImm
  | 0xA => .bare .lsrAcc
  | 0xB => .bare .illegal4B
  | 0xC => .word .jmpAbs
  | 0xD => .word .eorAbs
  | 0xE => .word .lsrAbs
  | _ => .word .sreAbs

/-- Row $5x of the opcode map, as the instructions its bytes begin. -/
def shapeRow5 : Nat → Shape
  | 0x0 => .byte .bvc
  | 0x1 => .byte .eorIndy
  | 0x2 => .bare .illegal52
  | 0x3 => .byte .sreIndy
  | 0x4 => .byte .nopZpx54
  | 0x5 => .byte .eorZpx
  | 0x6 => .byte .lsrZpx
  | 0x7 => .byte .sreZpx
  | 0x8 => .bare .cli
  | 0x9 => .word .eorAbsy
  | 0xA => .bare .nopImp5A
  | 0xB => .word .sreAbsy
  | 0xC => .word .nopAbsx5C
  | 0xD => .word .eorAbsx
  | 0xE => .word .lsrAbsx
  | _ => .word .sreAbsx

/-- Row $6x of the opcode map, as the instructions its bytes begin. -/
def shapeRow6 : Nat → Shape
  | 0x0 => .bare .rts
  | 0x1 => .byte .adcIndx
  | 0x2 => .bare .illegal62
  | 0x3 => .byte .rraIndx
  | 0x4 => .byte .nopZp64
  | 0x5 => .byte .adcZp
  | 0x6 => .byte .rorZp
  | 0x7 => .byte .rraZp
  | 0x8 => .bare .pla
  | 0x9 => .byte .adcImm
  | 0xA => .bare .rorAcc
  | 0xB => .bare .illegal6B
  | 0xC => .word .jmpInd
  | 0xD => .word .adcAbs
  | 0xE => .word .rorAbs
  | _ => .word .rraAbs

/-- Row $7x of the opcode map, as the instructions its bytes begin. -/
def shapeRow7 : Nat → Shape
  | 0x0 => .byte .bvs
  | 0x1 => .byte .adcIndy
  | 0x2 => .bare .illegal72
  | 0x3 => .byte .rraIndy
  | 0x4 => .byte .nopZpx74
  | 0x5 => .byte .adcZpx
  | 0x6 => .byte .rorZpx
  | 0x7 => .byte .rraZpx
  | 0x8 => .bare .sei
  | 0x9 => .word .adcAbsy
  | 0xA => .bare .nopImp7A
  | 0xB => .word .rraAbsy
  | 0xC => .word .nopAbsx7C
  | 0xD => .word .adcAbsx
  | 0xE => .word .rorAbsx
  | _ => .word .rraAbsx

/-- Row $8x of the opcode map, as the instructions its bytes begin. -/
def shapeRow8 : Nat → Shape
  | 0x0 => .byte .nopImm80
  | 0x1 => .byte .staIndx
  | 0x2 => .byte .nopImm82
  | 0x3 => .byte .saxIndx
  | 0x4 => .byte .styZp
  | 0x5 => .byte .staZp
  | 0x6 => .byte .stxZp
  | 0x7 => .byte .saxZp
  | 0x8 => .bare .dey
  | 0x9 => .byte .nopImm89
  | 0xA => .bare .txa
  | 0xB => .bare .illegal8B
  | 0xC => .word .styAbs
  | 0xD => .word .staAbs
  | 0xE => .word .stxAbs
  | _ => .word .saxAbs

/-- Row $9x of the opcode map, as the instructions its bytes begin. -/
def shapeRow9 : Nat → Shape
  | 0x0 => .byte .bcc
  | 0x1 => .byte .staIndy
  | 0x2 => .bare .illegal92
  | 0x3 => .bare .illegal93
  | 0x4 => .byte .styZpx
  | 0x5 => .byte .staZpx
  | 0x6 => .byte .stxZpy
  | 0x7 => .byte .saxZpy
  | 0x8 => .bare .tya
  | 0x9 => .word .staAbsy
  | 0xA => .bare .txs
  | 0xB => .bare .illegal9B
  | 0xC => .bare .illegal9C
  | 0xD => .word .staAbsx
  | 0xE => .bare .illegal9E
  | _ => .bare .illegal9F

/-- Row $Ax of the opcode map, as the instructions its bytes begin. -/
def shapeRowA : Nat → Shape
  | 0x0 => .byte .ldyImm
  | 0x1 => .byte .ldaIndx
  | 0x2 => .byte .ldxImm
  | 0x3 => .byte .laxIndx
  | 0x4 => .byte .ldyZp
  | 0x5 => .byte .ldaZp
  | 0x6 => .byte .ldxZp
  | 0x7 => .byte .laxZp
  | 0x8 => .bare .tay
  | 0x9 => .byte .ldaImm
  | 0xA => .bare .tax
  | 0xB => .bare .illegalAB
  | 0xC => .word .ldyAbs
  | 0xD => .word .ldaAbs
  | 0xE => .word .ldxAbs
  | _ => .word .laxAbs

/-- Row $Bx of the opcode map, as the instructions its bytes begin. -/
def shapeRowB : Nat → Shape
  | 0x0 => .byte .bcs
  | 0x1 => .byte .ldaIndy
  | 0x2 => .bare .illegalB2
  | 0x3 => .byte .laxIndy
  | 0x4 => .byte .ldyZpx
  | 0x5 => .byte .ldaZpx
  | 0x6 => .byte .ldxZpy
  | 0x7 => .byte .laxZpy
  | 0x8 => .bare .clv
  | 0x9 => .word .ldaAbsy
  | 0xA => .bare .tsx
  | 0xB => .bare .illegalBB
  | 0xC => .word .ldyAbsx
  | 0xD => .word .ldaAbsx
  | 0xE => .word .ldxAbsy
  | _ => .word .laxAbsy

/-- Row $Cx of the opcode map, as the instructions its bytes begin. -/
def shapeRowC : Nat → Shape
  | 0x0 => .byte .cpyImm
  | 0x1 => .byte .cmpIndx
  | 0x2 => .byte .nopImmC2
  | 0x3 => .byte .dcpIndx
  | 0x4 => .byte .cpyZp
  | 0x5 => .byte .cmpZp
  | 0x6 => .byte .decZp
  | 0x7 => .byte .dcpZp
  | 0x8 => .bare .iny
  | 0x9 => .byte .cmpImm
  | 0xA => .bare .dex
  | 0xB => .bare .illegalCB
  | 0xC => .word .cpyAbs
  | 0xD => .word .cmpAbs
  | 0xE => .word .decAbs
  | _ => .word .dcpAbs

/-- Row $Dx of the opcode map, as the instructions its bytes begin. -/
def shapeRowD : Nat → Shape
  | 0x0 => .byte .bne
  | 0x1 => .byte .cmpIndy
  | 0x2 => .bare .illegalD2
  | 0x3 => .byte .dcpIndy
  | 0x4 => .byte .nopZpxD4
  | 0x5 => .byte .cmpZpx
  | 0x6 => .byte .decZpx
  | 0x7 => .byte .dcpZpx
  | 0x8 => .bare .cld
  | 0x9 => .word .cmpAbsy
  | 0xA => .bare .nopImpDA
  | 0xB => .word .dcpAbsy
  | 0xC => .word .nopAbsxDC
  | 0xD => .word .cmpAbsx
  | 0xE => .word .decAbsx
  | _ => .word .dcpAbsx

/-- Row $Ex of the opcode map, as the instructions its bytes begin. -/
def shapeRowE : Nat → Shape
  | 0x0 => .byte .cpxImm
  | 0x1 => .byte .sbcIndx
  | 0x2 => .byte .nopImmE2
  | 0x3 => .byte .iscIndx
  | 0x4 => .byte .cpxZp
  | 0x5 => .byte .sbcZp
  | 0x6 => .byte .incZp
  | 0x7 => .byte .iscZp
  | 0x8 => .bare .inx
  | 0x9 => .byte .sbcImm
  | 0xA => .bare .nop
  | 0xB => .byte .sbcImmEB
  | 0xC => .word .cpxAbs
  | 0xD => .word .sbcAbs
  | 0xE => .word .incAbs
  | _ => .word .iscAbs

/-- Row $Fx of the opcode map, as the instructions its bytes begin. -/
def shapeRowF : Nat → Shape
  | 0x0 => .byte .beq
  | 0x1 => .byte .sbcIndy
  | 0x2 => .bare .illegalF2
  | 0x3 => .byte .iscIndy
  | 0x4 => .byte .nopZpxF4
  | 0x5 => .byte .sbcZpx
  | 0x6 => .byte .incZpx
  | 0x7 => .byte .iscZpx
  | 0x8 => .bare .sed
  | 0x9 => .word .sbcAbsy
  | 0xA => .bare .nopImpFA
  | 0xB => .word .iscAbsy
  | 0xC => .word .nopAbsxFC
  | 0xD => .word .sbcAbsx
  | 0xE => .word .incAbsx
  | _ => .word .iscAbsx

/-- R115: the shape of the instruction an opcode byte begins. The byte is decoded whole, as an index (R90). -/
def decodeOpcode (op : Byte) : Shape :=
  match hiNibble op with
  | 0x0 => shapeRow0 (loNibble op)
  | 0x1 => shapeRow1 (loNibble op)
  | 0x2 => shapeRow2 (loNibble op)
  | 0x3 => shapeRow3 (loNibble op)
  | 0x4 => shapeRow4 (loNibble op)
  | 0x5 => shapeRow5 (loNibble op)
  | 0x6 => shapeRow6 (loNibble op)
  | 0x7 => shapeRow7 (loNibble op)
  | 0x8 => shapeRow8 (loNibble op)
  | 0x9 => shapeRow9 (loNibble op)
  | 0xA => shapeRowA (loNibble op)
  | 0xB => shapeRowB (loNibble op)
  | 0xC => shapeRowC (loNibble op)
  | 0xD => shapeRowD (loNibble op)
  | 0xE => shapeRowE (loNibble op)
  | _ => shapeRowF (loNibble op)

/-- Why a list of bytes holds no whole instruction. -/
inductive DecodeError where
  /-- There is no opcode byte. -/
  | noOpcode
  /-- The list ends before the operand bytes of this opcode. -/
  | truncated (op : Byte)
deriving DecidableEq, Repr

/-- Whether an opcode is BRK's, whose second byte is a signature that nothing reads (R90, R272). -/
def hasSignature (op : Byte) : Bool := op == 0x00

/-- R115 and R92: the instruction at the head of a list of bytes, and the bytes after it. An unmapped byte decodes to
its illegal instruction, one byte long. BRK is two bytes and its second byte has no effect (R90). -/
def decode : List Byte → Except DecodeError (Instr × List Byte)
  | [] => .error .noOpcode
  | op :: rest =>
    match decodeOpcode op with
    | .bare i =>
      if hasSignature op then
        match rest with
        | _ :: rest => .ok (i, rest)
        | [] => .error (.truncated op)
      else .ok (i, rest)
    | .byte f =>
      match rest with
      | b1 :: rest => .ok (f b1, rest)
      | [] => .error (.truncated op)
    | .word f =>
      match rest with
      | b1 :: b2 :: rest => .ok (f (wordOf b2 b1), rest)
      | [_] => .error (.truncated op)
      | [] => .error (.truncated op)

/-- The opcode byte of an instruction (R111). -/
def Instr.opcode : Instr → Byte
  | .brk => 0x00
  | .oraIndx _ => 0x01
  | .illegal02 => 0x02
  | .sloIndx _ => 0x03
  | .nopZp04 _ => 0x04
  | .oraZp _ => 0x05
  | .aslZp _ => 0x06
  | .sloZp _ => 0x07
  | .php => 0x08
  | .oraImm _ => 0x09
  | .aslAcc => 0x0A
  | .illegal0B => 0x0B
  | .nopAbs0C _ => 0x0C
  | .oraAbs _ => 0x0D
  | .aslAbs _ => 0x0E
  | .sloAbs _ => 0x0F
  | .bpl _ => 0x10
  | .oraIndy _ => 0x11
  | .illegal12 => 0x12
  | .sloIndy _ => 0x13
  | .nopZpx14 _ => 0x14
  | .oraZpx _ => 0x15
  | .aslZpx _ => 0x16
  | .sloZpx _ => 0x17
  | .clc => 0x18
  | .oraAbsy _ => 0x19
  | .nopImp1A => 0x1A
  | .sloAbsy _ => 0x1B
  | .nopAbsx1C _ => 0x1C
  | .oraAbsx _ => 0x1D
  | .aslAbsx _ => 0x1E
  | .sloAbsx _ => 0x1F
  | .jsr _ => 0x20
  | .andIndx _ => 0x21
  | .illegal22 => 0x22
  | .rlaIndx _ => 0x23
  | .bitZp _ => 0x24
  | .andZp _ => 0x25
  | .rolZp _ => 0x26
  | .rlaZp _ => 0x27
  | .plp => 0x28
  | .andImm _ => 0x29
  | .rolAcc => 0x2A
  | .illegal2B => 0x2B
  | .bitAbs _ => 0x2C
  | .andAbs _ => 0x2D
  | .rolAbs _ => 0x2E
  | .rlaAbs _ => 0x2F
  | .bmi _ => 0x30
  | .andIndy _ => 0x31
  | .illegal32 => 0x32
  | .rlaIndy _ => 0x33
  | .nopZpx34 _ => 0x34
  | .andZpx _ => 0x35
  | .rolZpx _ => 0x36
  | .rlaZpx _ => 0x37
  | .sec => 0x38
  | .andAbsy _ => 0x39
  | .nopImp3A => 0x3A
  | .rlaAbsy _ => 0x3B
  | .nopAbsx3C _ => 0x3C
  | .andAbsx _ => 0x3D
  | .rolAbsx _ => 0x3E
  | .rlaAbsx _ => 0x3F
  | .rti => 0x40
  | .eorIndx _ => 0x41
  | .illegal42 => 0x42
  | .sreIndx _ => 0x43
  | .nopZp44 _ => 0x44
  | .eorZp _ => 0x45
  | .lsrZp _ => 0x46
  | .sreZp _ => 0x47
  | .pha => 0x48
  | .eorImm _ => 0x49
  | .lsrAcc => 0x4A
  | .illegal4B => 0x4B
  | .jmpAbs _ => 0x4C
  | .eorAbs _ => 0x4D
  | .lsrAbs _ => 0x4E
  | .sreAbs _ => 0x4F
  | .bvc _ => 0x50
  | .eorIndy _ => 0x51
  | .illegal52 => 0x52
  | .sreIndy _ => 0x53
  | .nopZpx54 _ => 0x54
  | .eorZpx _ => 0x55
  | .lsrZpx _ => 0x56
  | .sreZpx _ => 0x57
  | .cli => 0x58
  | .eorAbsy _ => 0x59
  | .nopImp5A => 0x5A
  | .sreAbsy _ => 0x5B
  | .nopAbsx5C _ => 0x5C
  | .eorAbsx _ => 0x5D
  | .lsrAbsx _ => 0x5E
  | .sreAbsx _ => 0x5F
  | .rts => 0x60
  | .adcIndx _ => 0x61
  | .illegal62 => 0x62
  | .rraIndx _ => 0x63
  | .nopZp64 _ => 0x64
  | .adcZp _ => 0x65
  | .rorZp _ => 0x66
  | .rraZp _ => 0x67
  | .pla => 0x68
  | .adcImm _ => 0x69
  | .rorAcc => 0x6A
  | .illegal6B => 0x6B
  | .jmpInd _ => 0x6C
  | .adcAbs _ => 0x6D
  | .rorAbs _ => 0x6E
  | .rraAbs _ => 0x6F
  | .bvs _ => 0x70
  | .adcIndy _ => 0x71
  | .illegal72 => 0x72
  | .rraIndy _ => 0x73
  | .nopZpx74 _ => 0x74
  | .adcZpx _ => 0x75
  | .rorZpx _ => 0x76
  | .rraZpx _ => 0x77
  | .sei => 0x78
  | .adcAbsy _ => 0x79
  | .nopImp7A => 0x7A
  | .rraAbsy _ => 0x7B
  | .nopAbsx7C _ => 0x7C
  | .adcAbsx _ => 0x7D
  | .rorAbsx _ => 0x7E
  | .rraAbsx _ => 0x7F
  | .nopImm80 _ => 0x80
  | .staIndx _ => 0x81
  | .nopImm82 _ => 0x82
  | .saxIndx _ => 0x83
  | .styZp _ => 0x84
  | .staZp _ => 0x85
  | .stxZp _ => 0x86
  | .saxZp _ => 0x87
  | .dey => 0x88
  | .nopImm89 _ => 0x89
  | .txa => 0x8A
  | .illegal8B => 0x8B
  | .styAbs _ => 0x8C
  | .staAbs _ => 0x8D
  | .stxAbs _ => 0x8E
  | .saxAbs _ => 0x8F
  | .bcc _ => 0x90
  | .staIndy _ => 0x91
  | .illegal92 => 0x92
  | .illegal93 => 0x93
  | .styZpx _ => 0x94
  | .staZpx _ => 0x95
  | .stxZpy _ => 0x96
  | .saxZpy _ => 0x97
  | .tya => 0x98
  | .staAbsy _ => 0x99
  | .txs => 0x9A
  | .illegal9B => 0x9B
  | .illegal9C => 0x9C
  | .staAbsx _ => 0x9D
  | .illegal9E => 0x9E
  | .illegal9F => 0x9F
  | .ldyImm _ => 0xA0
  | .ldaIndx _ => 0xA1
  | .ldxImm _ => 0xA2
  | .laxIndx _ => 0xA3
  | .ldyZp _ => 0xA4
  | .ldaZp _ => 0xA5
  | .ldxZp _ => 0xA6
  | .laxZp _ => 0xA7
  | .tay => 0xA8
  | .ldaImm _ => 0xA9
  | .tax => 0xAA
  | .illegalAB => 0xAB
  | .ldyAbs _ => 0xAC
  | .ldaAbs _ => 0xAD
  | .ldxAbs _ => 0xAE
  | .laxAbs _ => 0xAF
  | .bcs _ => 0xB0
  | .ldaIndy _ => 0xB1
  | .illegalB2 => 0xB2
  | .laxIndy _ => 0xB3
  | .ldyZpx _ => 0xB4
  | .ldaZpx _ => 0xB5
  | .ldxZpy _ => 0xB6
  | .laxZpy _ => 0xB7
  | .clv => 0xB8
  | .ldaAbsy _ => 0xB9
  | .tsx => 0xBA
  | .illegalBB => 0xBB
  | .ldyAbsx _ => 0xBC
  | .ldaAbsx _ => 0xBD
  | .ldxAbsy _ => 0xBE
  | .laxAbsy _ => 0xBF
  | .cpyImm _ => 0xC0
  | .cmpIndx _ => 0xC1
  | .nopImmC2 _ => 0xC2
  | .dcpIndx _ => 0xC3
  | .cpyZp _ => 0xC4
  | .cmpZp _ => 0xC5
  | .decZp _ => 0xC6
  | .dcpZp _ => 0xC7
  | .iny => 0xC8
  | .cmpImm _ => 0xC9
  | .dex => 0xCA
  | .illegalCB => 0xCB
  | .cpyAbs _ => 0xCC
  | .cmpAbs _ => 0xCD
  | .decAbs _ => 0xCE
  | .dcpAbs _ => 0xCF
  | .bne _ => 0xD0
  | .cmpIndy _ => 0xD1
  | .illegalD2 => 0xD2
  | .dcpIndy _ => 0xD3
  | .nopZpxD4 _ => 0xD4
  | .cmpZpx _ => 0xD5
  | .decZpx _ => 0xD6
  | .dcpZpx _ => 0xD7
  | .cld => 0xD8
  | .cmpAbsy _ => 0xD9
  | .nopImpDA => 0xDA
  | .dcpAbsy _ => 0xDB
  | .nopAbsxDC _ => 0xDC
  | .cmpAbsx _ => 0xDD
  | .decAbsx _ => 0xDE
  | .dcpAbsx _ => 0xDF
  | .cpxImm _ => 0xE0
  | .sbcIndx _ => 0xE1
  | .nopImmE2 _ => 0xE2
  | .iscIndx _ => 0xE3
  | .cpxZp _ => 0xE4
  | .sbcZp _ => 0xE5
  | .incZp _ => 0xE6
  | .iscZp _ => 0xE7
  | .inx => 0xE8
  | .sbcImm _ => 0xE9
  | .nop => 0xEA
  | .sbcImmEB _ => 0xEB
  | .cpxAbs _ => 0xEC
  | .sbcAbs _ => 0xED
  | .incAbs _ => 0xEE
  | .iscAbs _ => 0xEF
  | .beq _ => 0xF0
  | .sbcIndy _ => 0xF1
  | .illegalF2 => 0xF2
  | .iscIndy _ => 0xF3
  | .nopZpxF4 _ => 0xF4
  | .sbcZpx _ => 0xF5
  | .incZpx _ => 0xF6
  | .iscZpx _ => 0xF7
  | .sed => 0xF8
  | .sbcAbsy _ => 0xF9
  | .nopImpFA => 0xFA
  | .iscAbsy _ => 0xFB
  | .nopAbsxFC _ => 0xFC
  | .sbcAbsx _ => 0xFD
  | .incAbsx _ => 0xFE
  | .iscAbsx _ => 0xFF

/-- The addressing mode of an instruction with its operand bytes (R93, R111). -/
def Instr.form : Instr → Form
  | .brk => .imp
  | .oraIndx zp => .mem (.indx zp)
  | .illegal02 => .imp
  | .sloIndx zp => .mem (.indx zp)
  | .nopZp04 zp => .mem (.zp zp)
  | .oraZp zp => .mem (.zp zp)
  | .aslZp zp => .mem (.zp zp)
  | .sloZp zp => .mem (.zp zp)
  | .php => .imp
  | .oraImm v => .imm v
  | .aslAcc => .acc
  | .illegal0B => .imp
  | .nopAbs0C addr => .mem (.abs addr)
  | .oraAbs addr => .mem (.abs addr)
  | .aslAbs addr => .mem (.abs addr)
  | .sloAbs addr => .mem (.abs addr)
  | .bpl off => .rel off
  | .oraIndy zp => .mem (.indy zp)
  | .illegal12 => .imp
  | .sloIndy zp => .mem (.indy zp)
  | .nopZpx14 zp => .mem (.zpx zp)
  | .oraZpx zp => .mem (.zpx zp)
  | .aslZpx zp => .mem (.zpx zp)
  | .sloZpx zp => .mem (.zpx zp)
  | .clc => .imp
  | .oraAbsy addr => .mem (.absy addr)
  | .nopImp1A => .imp
  | .sloAbsy addr => .mem (.absy addr)
  | .nopAbsx1C addr => .mem (.absx addr)
  | .oraAbsx addr => .mem (.absx addr)
  | .aslAbsx addr => .mem (.absx addr)
  | .sloAbsx addr => .mem (.absx addr)
  | .jsr addr => .mem (.abs addr)
  | .andIndx zp => .mem (.indx zp)
  | .illegal22 => .imp
  | .rlaIndx zp => .mem (.indx zp)
  | .bitZp zp => .mem (.zp zp)
  | .andZp zp => .mem (.zp zp)
  | .rolZp zp => .mem (.zp zp)
  | .rlaZp zp => .mem (.zp zp)
  | .plp => .imp
  | .andImm v => .imm v
  | .rolAcc => .acc
  | .illegal2B => .imp
  | .bitAbs addr => .mem (.abs addr)
  | .andAbs addr => .mem (.abs addr)
  | .rolAbs addr => .mem (.abs addr)
  | .rlaAbs addr => .mem (.abs addr)
  | .bmi off => .rel off
  | .andIndy zp => .mem (.indy zp)
  | .illegal32 => .imp
  | .rlaIndy zp => .mem (.indy zp)
  | .nopZpx34 zp => .mem (.zpx zp)
  | .andZpx zp => .mem (.zpx zp)
  | .rolZpx zp => .mem (.zpx zp)
  | .rlaZpx zp => .mem (.zpx zp)
  | .sec => .imp
  | .andAbsy addr => .mem (.absy addr)
  | .nopImp3A => .imp
  | .rlaAbsy addr => .mem (.absy addr)
  | .nopAbsx3C addr => .mem (.absx addr)
  | .andAbsx addr => .mem (.absx addr)
  | .rolAbsx addr => .mem (.absx addr)
  | .rlaAbsx addr => .mem (.absx addr)
  | .rti => .imp
  | .eorIndx zp => .mem (.indx zp)
  | .illegal42 => .imp
  | .sreIndx zp => .mem (.indx zp)
  | .nopZp44 zp => .mem (.zp zp)
  | .eorZp zp => .mem (.zp zp)
  | .lsrZp zp => .mem (.zp zp)
  | .sreZp zp => .mem (.zp zp)
  | .pha => .imp
  | .eorImm v => .imm v
  | .lsrAcc => .acc
  | .illegal4B => .imp
  | .jmpAbs addr => .mem (.abs addr)
  | .eorAbs addr => .mem (.abs addr)
  | .lsrAbs addr => .mem (.abs addr)
  | .sreAbs addr => .mem (.abs addr)
  | .bvc off => .rel off
  | .eorIndy zp => .mem (.indy zp)
  | .illegal52 => .imp
  | .sreIndy zp => .mem (.indy zp)
  | .nopZpx54 zp => .mem (.zpx zp)
  | .eorZpx zp => .mem (.zpx zp)
  | .lsrZpx zp => .mem (.zpx zp)
  | .sreZpx zp => .mem (.zpx zp)
  | .cli => .imp
  | .eorAbsy addr => .mem (.absy addr)
  | .nopImp5A => .imp
  | .sreAbsy addr => .mem (.absy addr)
  | .nopAbsx5C addr => .mem (.absx addr)
  | .eorAbsx addr => .mem (.absx addr)
  | .lsrAbsx addr => .mem (.absx addr)
  | .sreAbsx addr => .mem (.absx addr)
  | .rts => .imp
  | .adcIndx zp => .mem (.indx zp)
  | .illegal62 => .imp
  | .rraIndx zp => .mem (.indx zp)
  | .nopZp64 zp => .mem (.zp zp)
  | .adcZp zp => .mem (.zp zp)
  | .rorZp zp => .mem (.zp zp)
  | .rraZp zp => .mem (.zp zp)
  | .pla => .imp
  | .adcImm v => .imm v
  | .rorAcc => .acc
  | .illegal6B => .imp
  | .jmpInd addr => .ind addr
  | .adcAbs addr => .mem (.abs addr)
  | .rorAbs addr => .mem (.abs addr)
  | .rraAbs addr => .mem (.abs addr)
  | .bvs off => .rel off
  | .adcIndy zp => .mem (.indy zp)
  | .illegal72 => .imp
  | .rraIndy zp => .mem (.indy zp)
  | .nopZpx74 zp => .mem (.zpx zp)
  | .adcZpx zp => .mem (.zpx zp)
  | .rorZpx zp => .mem (.zpx zp)
  | .rraZpx zp => .mem (.zpx zp)
  | .sei => .imp
  | .adcAbsy addr => .mem (.absy addr)
  | .nopImp7A => .imp
  | .rraAbsy addr => .mem (.absy addr)
  | .nopAbsx7C addr => .mem (.absx addr)
  | .adcAbsx addr => .mem (.absx addr)
  | .rorAbsx addr => .mem (.absx addr)
  | .rraAbsx addr => .mem (.absx addr)
  | .nopImm80 v => .imm v
  | .staIndx zp => .mem (.indx zp)
  | .nopImm82 v => .imm v
  | .saxIndx zp => .mem (.indx zp)
  | .styZp zp => .mem (.zp zp)
  | .staZp zp => .mem (.zp zp)
  | .stxZp zp => .mem (.zp zp)
  | .saxZp zp => .mem (.zp zp)
  | .dey => .imp
  | .nopImm89 v => .imm v
  | .txa => .imp
  | .illegal8B => .imp
  | .styAbs addr => .mem (.abs addr)
  | .staAbs addr => .mem (.abs addr)
  | .stxAbs addr => .mem (.abs addr)
  | .saxAbs addr => .mem (.abs addr)
  | .bcc off => .rel off
  | .staIndy zp => .mem (.indy zp)
  | .illegal92 => .imp
  | .illegal93 => .imp
  | .styZpx zp => .mem (.zpx zp)
  | .staZpx zp => .mem (.zpx zp)
  | .stxZpy zp => .mem (.zpy zp)
  | .saxZpy zp => .mem (.zpy zp)
  | .tya => .imp
  | .staAbsy addr => .mem (.absy addr)
  | .txs => .imp
  | .illegal9B => .imp
  | .illegal9C => .imp
  | .staAbsx addr => .mem (.absx addr)
  | .illegal9E => .imp
  | .illegal9F => .imp
  | .ldyImm v => .imm v
  | .ldaIndx zp => .mem (.indx zp)
  | .ldxImm v => .imm v
  | .laxIndx zp => .mem (.indx zp)
  | .ldyZp zp => .mem (.zp zp)
  | .ldaZp zp => .mem (.zp zp)
  | .ldxZp zp => .mem (.zp zp)
  | .laxZp zp => .mem (.zp zp)
  | .tay => .imp
  | .ldaImm v => .imm v
  | .tax => .imp
  | .illegalAB => .imp
  | .ldyAbs addr => .mem (.abs addr)
  | .ldaAbs addr => .mem (.abs addr)
  | .ldxAbs addr => .mem (.abs addr)
  | .laxAbs addr => .mem (.abs addr)
  | .bcs off => .rel off
  | .ldaIndy zp => .mem (.indy zp)
  | .illegalB2 => .imp
  | .laxIndy zp => .mem (.indy zp)
  | .ldyZpx zp => .mem (.zpx zp)
  | .ldaZpx zp => .mem (.zpx zp)
  | .ldxZpy zp => .mem (.zpy zp)
  | .laxZpy zp => .mem (.zpy zp)
  | .clv => .imp
  | .ldaAbsy addr => .mem (.absy addr)
  | .tsx => .imp
  | .illegalBB => .imp
  | .ldyAbsx addr => .mem (.absx addr)
  | .ldaAbsx addr => .mem (.absx addr)
  | .ldxAbsy addr => .mem (.absy addr)
  | .laxAbsy addr => .mem (.absy addr)
  | .cpyImm v => .imm v
  | .cmpIndx zp => .mem (.indx zp)
  | .nopImmC2 v => .imm v
  | .dcpIndx zp => .mem (.indx zp)
  | .cpyZp zp => .mem (.zp zp)
  | .cmpZp zp => .mem (.zp zp)
  | .decZp zp => .mem (.zp zp)
  | .dcpZp zp => .mem (.zp zp)
  | .iny => .imp
  | .cmpImm v => .imm v
  | .dex => .imp
  | .illegalCB => .imp
  | .cpyAbs addr => .mem (.abs addr)
  | .cmpAbs addr => .mem (.abs addr)
  | .decAbs addr => .mem (.abs addr)
  | .dcpAbs addr => .mem (.abs addr)
  | .bne off => .rel off
  | .cmpIndy zp => .mem (.indy zp)
  | .illegalD2 => .imp
  | .dcpIndy zp => .mem (.indy zp)
  | .nopZpxD4 zp => .mem (.zpx zp)
  | .cmpZpx zp => .mem (.zpx zp)
  | .decZpx zp => .mem (.zpx zp)
  | .dcpZpx zp => .mem (.zpx zp)
  | .cld => .imp
  | .cmpAbsy addr => .mem (.absy addr)
  | .nopImpDA => .imp
  | .dcpAbsy addr => .mem (.absy addr)
  | .nopAbsxDC addr => .mem (.absx addr)
  | .cmpAbsx addr => .mem (.absx addr)
  | .decAbsx addr => .mem (.absx addr)
  | .dcpAbsx addr => .mem (.absx addr)
  | .cpxImm v => .imm v
  | .sbcIndx zp => .mem (.indx zp)
  | .nopImmE2 v => .imm v
  | .iscIndx zp => .mem (.indx zp)
  | .cpxZp zp => .mem (.zp zp)
  | .sbcZp zp => .mem (.zp zp)
  | .incZp zp => .mem (.zp zp)
  | .iscZp zp => .mem (.zp zp)
  | .inx => .imp
  | .sbcImm v => .imm v
  | .nop => .imp
  | .sbcImmEB v => .imm v
  | .cpxAbs addr => .mem (.abs addr)
  | .sbcAbs addr => .mem (.abs addr)
  | .incAbs addr => .mem (.abs addr)
  | .iscAbs addr => .mem (.abs addr)
  | .beq off => .rel off
  | .sbcIndy zp => .mem (.indy zp)
  | .illegalF2 => .imp
  | .iscIndy zp => .mem (.indy zp)
  | .nopZpxF4 zp => .mem (.zpx zp)
  | .sbcZpx zp => .mem (.zpx zp)
  | .incZpx zp => .mem (.zpx zp)
  | .iscZpx zp => .mem (.zpx zp)
  | .sed => .imp
  | .sbcAbsy addr => .mem (.absy addr)
  | .nopImpFA => .imp
  | .iscAbsy addr => .mem (.absy addr)
  | .nopAbsxFC addr => .mem (.absx addr)
  | .sbcAbsx addr => .mem (.absx addr)
  | .incAbsx addr => .mem (.absx addr)
  | .iscAbsx addr => .mem (.absx addr)

/-- The entry of an instruction in the opcode table. -/
def Instr.entry (i : Instr) : Option Entry := opcodeTable i.opcode

/-- The name of an instruction; none for an unmapped byte. -/
def Instr.mnemonic (i : Instr) : Option Mnemonic := i.entry.map Entry.instr

/-- An instruction is well formed when its row of the table passes the checks of R114 and its operands are those of
the row's mode. -/
def Instr.wellFormed (i : Instr) : Bool := rowWellFormed i.opcode i.entry i.form

/-- The operand bytes of a memory form, in the order of the stream, low byte first (R92). -/
def MemForm.operandBytes : MemForm → List Byte
  | .zp b | .zpx b | .zpy b | .indx b | .indy b => [b]
  | .abs w | .absx w | .absy w => [lo w, hi w]

/-- The operand bytes of a form. -/
def Form.operandBytes : Form → List Byte
  | .imp | .acc => []
  | .imm v => [v]
  | .mem m => m.operandBytes
  | .ind w => [lo w, hi w]
  | .rel b => [b]

/-- The bytes of an instruction (R90). BRK's signature byte, which nothing reads, is written as $00
(DESIGN CHOICE, log entry 7). -/
def encode (i : Instr) : List Byte :=
  i.opcode :: (i.form.operandBytes ++ if hasSignature i.opcode then [0x00] else [])

/-- The three bytes that bits `nbits - 1` to 0 of `w` stand for, the first byte in the low bits, and zeros above. -/
def tableBytes (nbits w : Nat) : List Byte :=
  let v := w % 2 ^ nbits
  [BitVec.ofNat 8 v, BitVec.ofNat 8 (v / 256), BitVec.ofNat 8 (v / 65536)]

/-- The instruction the decoder reads from the bits of a row of spec/opcode_table.json. -/
def decodeTableWord (nbits w : Nat) : Option Instr :=
  match decode (tableBytes nbits w) with
  | .ok (i, _) => some i
  | .error _ => none

end Sys2Proof
end

