-- ==== Sys2Proof/Config.lean ====
section
/-! DEFINITION. What one machine fixes for its whole life: the four named parameters of spec/00_scope.md R5 and their
defaults, the vector locations of R5 and R73, and the one free value of the spec, the host oracle's answers (R76).
The parameters are plain data carried in State (log entry 2), so every theorem holds for every choice of them. -/

namespace Sys2Proof

/-- `PC_UPDATE_MODE` (R5, R119, R120; decision D1). -/
inductive PcUpdateMode where
  /-- R119, the default: a transfer goes to its target, its own address included. -/
  | architectural
  /-- R120: the document's literal test "PC == oldPC", with JMP as the one exception. -/
  | sourceHeuristic
deriving DecidableEq, Repr

/-- `MEMORY` (R5, R76; decision D15): how the host answers the Memory Port. -/
inductive MemoryKind where
  /-- The default: an array of 65,536 bytes. -/
  | plainRam
  /-- A general host oracle: a read may return any byte, and a write may have any effect on later reads. -/
  | hostOracle
deriving DecidableEq, Repr

/-- The named parameters of R5. -/
structure Params where
  /-- `PC_UPDATE_MODE`. -/
  pcUpdate : PcUpdateMode
  /-- `FUSED_INTERRUPT_STEP` (R338; decision D2). -/
  fusedInterruptStep : Bool
  /-- `RESET_CYCLES` (R49, R370; decision D11). -/
  resetCycles : Count
  /-- `MEMORY`. -/
  memory : MemoryKind
deriving DecidableEq, Repr

/-- The defaults of R5. -/
def Config.defaultParams : Params where
  pcUpdate := .architectural
  fusedInterruptStep := false
  resetCycles := 7
  memory := .plainRam

/-- Where the NMI vector lies (R5, R73). -/
def Config.nmiVectorLocation : Word := 0xFFFA

/-- Where the reset vector lies (R5, R73; the spec gives it from general knowledge, G8). -/
def Config.resetVectorLocation : Word := 0xFFFC

/-- Where the IRQ and BRK vector lies (R5, R73). -/
def Config.irqVectorLocation : Word := 0xFFFE

/-- What a byte of memory that nothing has written reads as. DESIGN CHOICE (log entry 1), unsafe: the host owns the
initial contents (93_implementation_defined.md I3), and 95_test_vectors.md lists memory over a background of $00. -/
def Config.unwrittenByte : Byte := 0

/-- FREE VALUE (R76, I1; log entry 3): the byte the host oracle answers at its n-th read. It has no body, so a theorem
about it holds for every sequence of answers a host can give. -/
opaque Config.portDraw : Nat → Byte

end Sys2Proof
end

