-- ==== Sys2Proof/Machine/State.lean ====
section
/-! DEFINITION. The state of the core as plain data (spec/10_state.md R30 to R49), the reasons a step can stop, and the
state after reset. -/

namespace Sys2Proof.Machine

/-- The Flags Register: eight independent 1-bit fields (R36), in the order of their bits in the status byte. -/
structure Flags where
  /-- Carry, bit 0. -/
  c : Bool
  /-- Zero, bit 1. -/
  z : Bool
  /-- Interrupt disable, bit 2. -/
  i : Bool
  /-- Decimal, bit 3. Nothing reads it (R180). -/
  d : Bool
  /-- Break, bit 4. Stored as 0 (R39). -/
  b : Bool
  /-- Unused, bit 5. Stored as 1 (R39). -/
  u : Bool
  /-- Overflow, bit 6. -/
  v : Bool
  /-- Negative, bit 7. -/
  n : Bool
deriving DecidableEq, Repr

/-- P after reset: $24, that is I = 1 and U = 1 and every other flag 0 (R49). -/
def Flags.atReset : Flags where
  c := false
  z := false
  i := true
  d := false
  b := false
  u := true
  v := false
  n := false

/-- A fatal error (R333): its whole content is the address and the byte. UnsupportedAddressingMode has no case, since a
model has no transition for it (R335). -/
inductive FatalError where
  | illegalOpcode (pc : Word) (byte : Byte)
deriving DecidableEq, Repr

/-- One call of the Memory Port (R61, R62): a read with the byte it answered, or a write. -/
inductive PortCall where
  | read (addr : Word) (v : Byte)
  | write (addr : Word) (v : Byte)
deriving DecidableEq, Repr

/-- The bytes of memory that differ from what unwritten memory reads as, addresses strictly rising (R60, R76). -/
abbrev Memory := List Host.Cell

/-- The state of the core. -/
structure State where
  /-- The accumulator A (R31). Reset: $00 (R49). -/
  a : Byte
  /-- The index register X (R32). Reset: $00 (R49). -/
  x : Byte
  /-- The index register Y (R33). Reset: $00 (R49). -/
  y : Byte
  /-- The stack pointer SP (R34). Reset: $FD (R49). -/
  sp : Byte
  /-- The program counter PC (R35). During an instruction it holds the address of its opcode byte. -/
  pc : Word
  /-- The Flags Register P (R36). Reset: $24 (R49). -/
  p : Flags
  /-- The Cycles counter (R41), modulo 2^64. Reset: RESET_CYCLES (R49). -/
  cycles : Count
  /-- The StallCycles budget (R42). Reset: 0 (R49). -/
  stallCycles : Count
  /-- The NMI latch (R43). Reset: 0 (R49). -/
  nmiPending : Bool
  /-- The IRQ latch (R43). Reset: 0 (R49). -/
  irqPending : Bool
  /-- The NMI running marker (R44). Reset: 0 (R49). -/
  nmiRunning : Bool
  /-- The IRQ running marker (R44). Reset: 0 (R49). -/
  irqRunning : Bool
  /-- The cached NMI vector (R45). -/
  nmiAddress : Word
  /-- The cached IRQ and BRK vector (R45). -/
  irqAddress : Word
  /-- The fault record (R47). Reset: none (R49). -/
  fault : Option FatalError
  /-- The array behind the Memory Port under PlainRAM (R60, R76). -/
  mem : Memory
  /-- The named parameters (R5), fixed for the machine (log entry 2). -/
  params : Params
  /-- THE MODEL'S OWN: how many reads the host oracle has answered (R76; log entry 3). -/
  draws : Nat
  /-- THE MODEL'S OWN: the port calls of the latest Step, Reset or construction, oldest first (R63, R78; log entry 4). -/
  portCalls : List PortCall
deriving DecidableEq, Repr

/-- Why the machine takes no step. -/
inductive Fault where
  /-- Raised by `step` alone, at a state whose fault record is set: "once Fault is set, no further Step is taken"
  (R47, R334). Safe: it is the spec's own stop. No instruction's meaning raises it. -/
  | fatalError (e : FatalError)
deriving DecidableEq, Repr

/-- Why an instruction has no meaning in the model. -/
inductive Refusal where
  /-- Raised by an arm of `exec` whose instruction is not modelled yet. Safe: the machine stops. No arm does so. -/
  | notModelled (mnemonic : String)
deriving DecidableEq, Repr

/-- What running an instruction, or a step, answers. -/
abbrev Result := Host.Outcome State Fault Refusal

/-- The machine right after construction over a memory that lists nothing (R49, R373): every field at the value R49
states, PC and the two cached vectors as read from that memory (log entry 1), the parameters at their defaults (R5),
and the six vector reads of R370 as its port calls (log entry 4). -/
def State.reset : State where
  a := 0x00
  x := 0x00
  y := 0x00
  sp := 0xFD
  pc := 0x0000
  p := Flags.atReset
  cycles := 7
  stallCycles := 0
  nmiPending := false
  irqPending := false
  nmiRunning := false
  irqRunning := false
  nmiAddress := 0x0000
  irqAddress := 0x0000
  fault := none
  mem := []
  params := Config.defaultParams
  draws := 0
  portCalls := [.read 0xFFFA 0, .read 0xFFFB 0, .read 0xFFFC 0, .read 0xFFFD 0, .read 0xFFFE 0, .read 0xFFFF 0]

/-- Write `a` and nothing else. -/
def State.setA (s : State) (v : Byte) : State := { s with a := v }

/-- Write `x` and nothing else. -/
def State.setX (s : State) (v : Byte) : State := { s with x := v }

/-- Write `y` and nothing else. -/
def State.setY (s : State) (v : Byte) : State := { s with y := v }

/-- Write `sp` and nothing else. -/
def State.setSp (s : State) (v : Byte) : State := { s with sp := v }

/-- Write `pc` and nothing else. -/
def State.setPc (s : State) (v : Word) : State := { s with pc := v }

/-- Write `p` and nothing else. -/
def State.setP (s : State) (v : Flags) : State := { s with p := v }

/-- Write `cycles` and nothing else. -/
def State.setCycles (s : State) (v : Count) : State := { s with cycles := v }

/-- Write `stallCycles` and nothing else. -/
def State.setStallCycles (s : State) (v : Count) : State := { s with stallCycles := v }

/-- Write `nmiPending` and nothing else. -/
def State.setNmiPending (s : State) (v : Bool) : State := { s with nmiPending := v }

/-- Write `irqPending` and nothing else. -/
def State.setIrqPending (s : State) (v : Bool) : State := { s with irqPending := v }

/-- Write `nmiRunning` and nothing else. -/
def State.setNmiRunning (s : State) (v : Bool) : State := { s with nmiRunning := v }

/-- Write `irqRunning` and nothing else. -/
def State.setIrqRunning (s : State) (v : Bool) : State := { s with irqRunning := v }

/-- Write `nmiAddress` and nothing else. -/
def State.setNmiAddress (s : State) (v : Word) : State := { s with nmiAddress := v }

/-- Write `irqAddress` and nothing else. -/
def State.setIrqAddress (s : State) (v : Word) : State := { s with irqAddress := v }

/-- Write `fault` and nothing else. -/
def State.setFault (s : State) (v : Option FatalError) : State := { s with fault := v }

/-- Write `mem` and nothing else. -/
def State.setMem (s : State) (v : Memory) : State := { s with mem := v }

/-- Write `params` and nothing else. -/
def State.setParams (s : State) (v : Params) : State := { s with params := v }

/-- Write `draws` and nothing else. -/
def State.setDraws (s : State) (v : Nat) : State := { s with draws := v }

/-- Write `portCalls` and nothing else. -/
def State.setPortCalls (s : State) (v : List PortCall) : State := { s with portCalls := v }

end Sys2Proof.Machine
end

