-- ==== Sys2Proof/Machine/Flags.lean ====
section
/-! DEFINITION. The status byte and every flag computation of the instruction set: packing (spec/10_state.md R38, R39),
SetNZ (R40), the status bytes that are pushed (spec/60_exceptions.md R329), and the arithmetic of spec/42_alu.md with
the flags it leaves. -/

namespace Sys2Proof.Machine

/-- `Pack(P)` (R38). -/
def pack (p : Flags) : Byte :=
  BitVec.ofNat 8 (p.c.toNat + 2 * p.z.toNat + 4 * p.i.toNat + 8 * p.d.toNat
    + 16 * p.b.toNat + 32 * p.u.toNat + 64 * p.v.toNat + 128 * p.n.toNat)

/-- `Unpack(v)` (R38). -/
def unpack (v : Byte) : Flags where
  c := v.getLsbD 0
  z := v.getLsbD 1
  i := v.getLsbD 2
  d := v.getLsbD 3
  b := v.getLsbD 4
  u := v.getLsbD 5
  v := v.getLsbD 6
  n := v.getLsbD 7

/-- The flags PLP and RTI load from a popped byte: `Unpack((v AND $EF) OR $20)` (R39, R263, R273). -/
def loadedFlags (v : Byte) : Flags := unpack ((v &&& 0xEF) ||| 0x20)

/-- The byte PHP and BRK push: `Pack(P) OR $30`, so B = 1 and U = 1 (R261, R272, R329). -/
def softwareStatus (p : Flags) : Byte := pack p ||| 0x30

/-- The byte IRQ and NMI vectoring push: `(Pack(P) AND $EF) OR $20`, so B = 0 and U = 1 (R328, R329). -/
def hardwareStatus (p : Flags) : Byte := (pack p &&& 0xEF) ||| 0x20

/-- `SetNZ(v)` (R40). -/
def setNZ (v : Byte) (p : Flags) : Flags := { p with z := v == 0, n := v.getLsbD 7 }

/-- ADC's result and flags on accumulator `a` and operand `m` (R181): a wide sum, C when it passes 255, V when the
operands' signs agree and the result's differs. -/
def addWithCarry (a m : Byte) (p : Flags) : Byte × Flags :=
  let sum := a.toNat + m.toNat + p.c.toNat
  let r := BitVec.ofNat 8 sum
  let p := { p with
    c := decide (sum > 255)
    v := ((a ^^^ m) &&& 0x80) == 0 && ((a ^^^ r) &&& 0x80) != 0 }
  (r, setNZ r p)

/-- SBC's result and flags on accumulator `a` and operand `m` (R182): a wide signed difference, C when it is not
negative, V when the operands' signs differ and the result's sign is not the accumulator's. -/
def subWithBorrow (a m : Byte) (p : Flags) : Byte × Flags :=
  let diff : Int := (a.toNat : Int) - m.toNat - (1 - p.c.toNat)
  let r := BitVec.ofInt 8 diff
  let p := { p with
    c := decide (diff ≥ 0)
    v := ((a ^^^ m) &&& 0x80) != 0 && ((a ^^^ r) &&& 0x80) != 0 }
  (r, setNZ r p)

/-- `Compare(reg, m)` (R187): C from the unsigned comparison, Z and N from the difference; V is not written. -/
def compareFlags (reg m : Byte) (p : Flags) : Flags :=
  setNZ (reg - m) { p with c := decide (reg.toNat ≥ m.toNat) }

/-- BIT's flags (R186): Z from `A AND m`, N and V from the memory byte's bits 7 and 6. -/
def bitFlags (a m : Byte) (p : Flags) : Flags :=
  { p with z := (a &&& m) == 0, n := m.getLsbD 7, v := m.getLsbD 6 }

/-- ASL's result and flags (R198). -/
def shiftLeft (v : Byte) (p : Flags) : Byte × Flags :=
  let r := v <<< 1
  (r, setNZ r { p with c := v.getLsbD 7 })

/-- LSR's result and flags (R199). -/
def shiftRight (v : Byte) (p : Flags) : Byte × Flags :=
  let r := v >>> 1
  (r, setNZ r { p with c := v.getLsbD 0 })

/-- ROL's result and flags (R200): the old carry feeds bit 0. -/
def rotateLeft (v : Byte) (p : Flags) : Byte × Flags :=
  let r := (v <<< 1) ||| BitVec.ofNat 8 p.c.toNat
  (r, setNZ r { p with c := v.getLsbD 7 })

/-- ROR's result and flags (R201): the old carry feeds bit 7. -/
def rotateRight (v : Byte) (p : Flags) : Byte × Flags :=
  let r := (v >>> 1) ||| BitVec.ofNat 8 (p.c.toNat * 0x80)
  (r, setNZ r { p with c := v.getLsbD 0 })

/-- INC's result and flags (R191): C and V are unchanged. -/
def increment (v : Byte) (p : Flags) : Byte × Flags :=
  let r := v + 1
  (r, setNZ r p)

/-- DEC's result and flags (R192): C and V are unchanged. -/
def decrement (v : Byte) (p : Flags) : Byte × Flags :=
  let r := v - 1
  (r, setNZ r p)

end Sys2Proof.Machine
end

