-- ==== Sys2Proof/Machine/Ops.lean ====
section
/-! DEFINITION. The named operations over memory and registers: the byte array and the Memory Port (spec/20_memory.md
R60 to R66, R76), the stack engine (R69 to R72), cycle accounting and the PC update (spec/30_encoding.md R118 to R120),
and the entry to and return from an interrupt and the fatal error (spec/60_exceptions.md R328, R331, R333). -/

namespace Sys2Proof.Machine

/-! ### Words -/

/-- `page(a)`: bits 15 to 8 of an address (R6, R121). -/
def page (a : Word) : Byte := hi a

/-- `zext_16(b)` (R7). -/
def zext16 (b : Byte) : Word := b.setWidth 16

/-- `sext_16(b)` (R7). -/
def sext16 (b : Byte) : Word := b.signExtend 16

/-! ### The byte array -/

/-- The byte at an address; an address that is not listed reads as `Config.unwrittenByte`. -/
def Memory.load : Memory → Nat → Byte
  | [], _ => Config.unwrittenByte
  | c :: m, a => if c.1 = a then c.2 else Memory.load m a

/-- Put a cell in its place by address. -/
def Memory.place : Memory → Host.Cell → Memory
  | [], c => [c]
  | d :: m, c => if c.1 < d.1 then c :: d :: m else d :: Memory.place m c

/-- Store a byte, keeping the canonical form: storing what an unlisted address reads as takes the entry away. -/
def Memory.store (m : Memory) (a : Nat) (v : Byte) : Memory :=
  let rest := m.filter (fun c => c.1 != a)
  if v = Config.unwrittenByte then rest else Memory.place rest (a, v)

/-- Whether a cell may stand in a memory: its address is one of the 65,536 (R60) and its byte is not what an unlisted
address reads as. -/
def cellWf (c : Host.Cell) : Bool := decide (c.1 < 65536) && c.2 != Config.unwrittenByte

/-- Whether the addresses of a memory rise strictly. -/
def Memory.rising : Memory → Bool
  | [] => true
  | [_] => true
  | c :: d :: m => decide (c.1 < d.1) && Memory.rising (d :: m)

/-- The canonical form of memory. -/
def Memory.wf (m : Memory) : Bool := m.all cellWf && Memory.rising m

/-! ### The Memory Port -/

/-- The byte the port answers to a read of `a` at this state (R61, R76): the array's byte under `PlainRAM`, the next
free value under the host oracle. -/
def State.portByte (s : State) (a : Word) : Byte :=
  match s.params.memory with
  | .plainRam => s.mem.load a.toNat
  | .hostOracle => Config.portDraw s.draws

/-- Record a port call. -/
def State.called (s : State) (c : PortCall) : State := s.setPortCalls (s.portCalls ++ [c])

/-- The state after one call of the port's Read: the call is recorded, and the host oracle has answered once more. -/
def State.afterRead (s : State) (a : Word) : State :=
  match s.params.memory with
  | .plainRam => s.called (.read a (s.portByte a))
  | .hostOracle => (s.setDraws (s.draws + 1)).called (.read a (s.portByte a))

/-- `MemRead(addr)` (R61): one call of the port's Read. -/
def memRead (a : Word) (s : State) : Byte × State := (s.portByte a, s.afterRead a)

/-- `MemWrite(addr, v)` (R62): one call of the port's Write. Under `PlainRAM` the array stores the byte. Under the host
oracle every later read is free already, so the write has nothing more to change (R76; log entry 3). -/
def memWrite (a : Word) (v : Byte) (s : State) : State :=
  match s.params.memory with
  | .plainRam => (s.setMem (s.mem.store a.toNat v)).called (.write a v)
  | .hostOracle => s.called (.write a v)

/-- `ReadWord(a)` (R64): low byte first, little-endian, wrapping at $FFFF. -/
def readWord (a : Word) (s : State) : Word × State :=
  let (l, s) := memRead a s
  let (h, s) := memRead (a + 1) s
  (wordOf h l, s)

/-- `ReadWordBug(a)` (R65): the high byte comes from the same page. -/
def readWordBug (a : Word) (s : State) : Word × State :=
  let (l, s) := memRead a s
  let (h, s) := memRead (wordOf (hi a) (lo a + 1)) s
  (wordOf h l, s)

/-- `WriteWord(a, w)` (R66). No instruction uses it. -/
def writeWord (a w : Word) (s : State) : State :=
  memWrite (a + 1) (hi w) (memWrite a (lo w) s)

/-! ### The stack engine -/

/-- The address the stack pointer designates (R34, R69). -/
def stackAddr (sp : Byte) : Word := 0x0100 + zext16 sp

/-- `Push(v)` (R69). -/
def push (v : Byte) (s : State) : State :=
  (memWrite (stackAddr s.sp) v s).setSp (s.sp - 1)

/-- `Pop()` (R70). -/
def pop (s : State) : Byte × State :=
  let s := s.setSp (s.sp + 1)
  memRead (stackAddr s.sp) s

/-- `Push16(w)` (R71): high byte first. -/
def push16 (w : Word) (s : State) : State := push (lo w) (push (hi w) s)

/-- `Pop16()` (R71): low byte first. -/
def pop16 (s : State) : Word × State :=
  let (l, s) := pop s
  let (h, s) := pop s
  (wordOf h l, s)

/-! ### Cycles and the program counter -/

/-- `Cycles += n` (R41), modulo 2^64. -/
def addCycles (n : Nat) (s : State) : State := s.setCycles (s.cycles + BitVec.ofNat 64 n)

/-- The base cycles of an opcode (R110); an unmapped byte charges none (R115). -/
def baseCycles (op : Byte) : Nat := ((opcodeTable op).map Entry.cycles).getD 0

/-- The page-cross flag of an opcode (R110, R118). -/
def crossCharged (op : Byte) : Bool := ((opcodeTable op).map Entry.pageCross).getD false

/-- The size of an opcode's instruction (R91). An unmapped byte has no size; nothing uses the 1 given here. -/
def opSize (op : Byte) : Nat := ((opcodeTable op).map Entry.size).getD 1

/-- Whether an opcode is a JMP, the exception of R120. -/
def isJmp (op : Byte) : Bool := (opcodeTable op).map Entry.instr == some .jmp

/-- Cycle accounting of the Step Loop (R117, R118): the base cycles, and one more on a page cross where the entry is
page-cross sensitive. -/
def account (op : Byte) (cross : Bool) (s : State) : State :=
  addCycles (baseCycles op + (crossCharged op && cross).toNat) s

/-- How an instruction ends (R119): sequential, or a transfer to a target. -/
inductive Next where
  | sequential
  | transfer (t : Word)
deriving DecidableEq, Repr

/-- `UpdatePC` (R119, R120), with PC still at the opcode byte. -/
def updatePc (op : Byte) (n : Next) (s : State) : State :=
  let after := s.pc + BitVec.ofNat 16 (opSize op)
  match n, s.params.pcUpdate with
  | .sequential, _ => s.setPc after
  | .transfer t, .architectural => s.setPc t
  | .transfer t, .sourceHeuristic => s.setPc (if t = s.pc && !isJmp op then after else t)

/-! ### Taking an exception, returning from one, and the fatal error -/

/-- What every vectoring does to the stack and to I (R272, R328): push the return address, push the status byte, set
the Interrupt-Disable flag. -/
def enterHandler (ret : Word) (status : Byte) (s : State) : State :=
  let s := push status (push16 ret s)
  s.setP { s.p with i := true }

/-- `Vector(v)` (R328): a hardware interrupt's entry. PC and the status byte with B = 0 are pushed, I is set, 7 cycles
are charged, and PC is the cached vector. -/
def vector (v : Word) (s : State) : State :=
  (addCycles 7 (enterHandler s.pc (hardwareStatus s.p) s)).setPc v

/-- The return from an interrupt (R273, R331): pop P (B <- 0, U <- 1), pop PC, clear both running markers. The popped
PC is the answer; the PC update takes it. -/
def returnFromInterrupt (s : State) : Word × State :=
  let (v, s) := pop s
  let (t, s) := pop16 (s.setP (loadedFlags v))
  (t, (s.setNmiRunning false).setIrqRunning false)

/-- `raise IllegalOpcode(PC, byte)` (R333, R334): the fault record is set and nothing else changes. -/
def raiseIllegal (byte : Byte) (s : State) : State :=
  s.setFault (some (.illegalOpcode s.pc byte))

end Sys2Proof.Machine
end

