-- ==== Sys2Proof/Machine/Operands.lean ====
section
/-! DEFINITION. The operand resolver, every addressing mode of spec/30_encoding.md R93 to R107, the operand accessors
R108 and R109, and how an instruction runs on its resolved operand (R117): account the cycles, execute, update PC.

The variants of the document's Operand are told apart by type, so that OpRead and OpWrite meet only the operands they
are defined on (log entry 10): `Imp` is Unit, `Acc` and `Mem(ea)` are Place, `Imm(v)` and a Place are Operand, and
`Ind(target)` and `Rel(target)` are the target word. -/

namespace Sys2Proof.Machine

/-- The operands that can be written (R109): `Acc` and `Mem(ea)`. -/
inductive Place where
  | acc
  | mem (ea : Word)
deriving DecidableEq, Repr

/-- The operands that can be read (R108): `Imm(v)`, `Acc` and `Mem(ea)`. -/
inductive Operand where
  | imm (v : Byte)
  | place (t : Place)
deriving DecidableEq, Repr

/-- What `Resolve(mode)` returns (R94): the operand and the page-cross bit, with the state after the resolver's own
port reads, which are those of the pointer bytes. -/
structure Resolved (α : Type) where
  operand : α
  cross : Bool
  state : State
deriving DecidableEq, Repr

/-- `base + zext_16(index)` with its page-cross bit (R102, R103, R106, R121). -/
def indexed (base : Word) (index : Byte) (s : State) : Resolved Word :=
  let ea := base + zext16 index
  { operand := ea, cross := page ea != page base, state := s }

/-- The effective address of a memory form (R98 to R103, R105, R106). -/
def resolveMem (m : MemForm) (s : State) : Resolved Word :=
  match m with
  | .zp b => { operand := wordOf 0 b, cross := false, state := s }
  | .zpx b => { operand := wordOf 0 (b + s.x), cross := false, state := s }
  | .zpy b => { operand := wordOf 0 (b + s.y), cross := false, state := s }
  | .abs w => { operand := w, cross := false, state := s }
  | .absx w => indexed w s.x s
  | .absy w => indexed w s.y s
  | .indx b =>
    let (ea, s) := readWordBug (wordOf 0 (b + s.x)) s
    { operand := ea, cross := false, state := s }
  | .indy b =>
    let (base, s) := readWordBug (wordOf 0 b) s
    indexed base s.y s

/-- IMP (R95). -/
def noOperand (s : State) : Resolved Unit := { operand := (), cross := false, state := s }

/-- ACC (R96). -/
def accPlace (s : State) : Resolved Place := { operand := .acc, cross := false, state := s }

/-- IMM (R97). -/
def immOperand (v : Byte) (s : State) : Resolved Operand := { operand := .imm v, cross := false, state := s }

/-- A memory form as a writable operand. -/
def memPlace (m : MemForm) (s : State) : Resolved Place :=
  let r := resolveMem m s
  { operand := .mem r.operand, cross := r.cross, state := r.state }

/-- A memory form as a readable operand. -/
def memOperand (m : MemForm) (s : State) : Resolved Operand :=
  let r := resolveMem m s
  { operand := .place (.mem r.operand), cross := r.cross, state := r.state }

/-- ABS as the target of JMP and JSR, which read no data (R101). -/
def absTarget (addr : Word) (s : State) : Resolved Word := { operand := addr, cross := false, state := s }

/-- IND (R104): the target is read with the page-wrap bug. -/
def indTarget (addr : Word) (s : State) : Resolved Word :=
  let (t, s) := readWordBug addr s
  { operand := t, cross := false, state := s }

/-- REL (R107): `PC + 2 + sext_16(b1)`. -/
def relTarget (off : Byte) (s : State) : Resolved Word :=
  { operand := s.pc + 2 + sext16 off, cross := false, state := s }

/-- `OpRead(opnd)` (R108): one port read for a memory operand, none for the others. -/
def opRead (o : Operand) (s : State) : Byte × State :=
  match o with
  | .imm v => (v, s)
  | .place .acc => (s.a, s)
  | .place (.mem ea) => memRead ea s

/-- `OpWrite(opnd, v)` (R109). -/
def opWrite (t : Place) (v : Byte) (s : State) : State :=
  match t with
  | .acc => s.setA v
  | .mem ea => memWrite ea v s

/-- The part of a Step after decode (R117) for the instruction of opcode `op` with its operand resolved: account the
table's cycles, execute the handler, update PC. -/
def run {α : Type} (op : Byte) (r : Resolved α) (h : α → State → Next × State) : Result :=
  let (n, s) := h r.operand (account op r.cross r.state)
  .next (updatePc op n s)

/-- `run` for an instruction whose rule transfers control nowhere (R9, R119). -/
def runSeq {α : Type} (op : Byte) (r : Resolved α) (h : α → State → State) : Result :=
  run op r (fun o s => (.sequential, h o s))

/-- `runSeq` for an instruction with no operand. -/
def runImplied (op : Byte) (h : State → State) (s : State) : Result :=
  runSeq op (noOperand s) (fun _ => h)

/-- A handler that reads its operand once: the operand's byte goes to `f` (R108). -/
def reading (f : Byte → State → State) (o : Operand) (s : State) : State :=
  let (m, s) := opRead o s
  f m s

/-- A read-modify-write handler: one OpRead and one OpWrite of the same operand (R180), with `f` giving the new byte
and the flags. -/
def modifying (f : Byte → Flags → Byte × Flags) (t : Place) (s : State) : State :=
  let (v, s) := opRead (.place t) s
  let (r, p) := f v s.p
  opWrite t r (s.setP p)

end Sys2Proof.Machine
end

