-- ==== Sys2Proof/Machine/Alu.lean ====
section
/-! DEFINITION. The arithmetic, logical, compare, increment, decrement, shift and rotate instructions
(spec/42_alu.md R180 to R201): the semantic handler of each mnemonic, then the meaning of each opcode byte. -/

namespace Sys2Proof.Machine

/-- A result in A with its flags. -/
def intoA (r : Byte × Flags) (s : State) : State := (s.setA r.1).setP r.2

/-- ADC (R181). -/
def handleAdc : Operand → State → State := reading fun m s => intoA (addWithCarry s.a m s.p) s

/-- SBC (R182). -/
def handleSbc : Operand → State → State := reading fun m s => intoA (subWithBorrow s.a m s.p) s

/-- AND (R183). -/
def handleAnd : Operand → State → State := reading fun m s => intoA (s.a &&& m, setNZ (s.a &&& m) s.p) s

/-- ORA (R184). -/
def handleOra : Operand → State → State := reading fun m s => intoA (s.a ||| m, setNZ (s.a ||| m) s.p) s

/-- EOR (R185). -/
def handleEor : Operand → State → State := reading fun m s => intoA (s.a ^^^ m, setNZ (s.a ^^^ m) s.p) s

/-- BIT (R186): A is not written. -/
def handleBit : Operand → State → State := reading fun m s => s.setP (bitFlags s.a m s.p)

/-- CMP (R188). -/
def handleCmp : Operand → State → State := reading fun m s => s.setP (compareFlags s.a m s.p)

/-- CPX (R189). -/
def handleCpx : Operand → State → State := reading fun m s => s.setP (compareFlags s.x m s.p)

/-- CPY (R190). -/
def handleCpy : Operand → State → State := reading fun m s => s.setP (compareFlags s.y m s.p)

/-- INC (R191). -/
def handleInc : Place → State → State := modifying increment

/-- DEC (R192). -/
def handleDec : Place → State → State := modifying decrement

/-- INX (R193). -/
def handleInx (s : State) : State := (s.setX (s.x + 1)).setP (setNZ (s.x + 1) s.p)

/-- INY (R194). -/
def handleIny (s : State) : State := (s.setY (s.y + 1)).setP (setNZ (s.y + 1) s.p)

/-- DEX (R195). -/
def handleDex (s : State) : State := (s.setX (s.x - 1)).setP (setNZ (s.x - 1) s.p)

/-- DEY (R196). -/
def handleDey (s : State) : State := (s.setY (s.y - 1)).setP (setNZ (s.y - 1) s.p)

/-- ASL (R198), on the accumulator or on memory (R197). -/
def handleAsl : Place → State → State := modifying shiftLeft

/-- LSR (R199). -/
def handleLsr : Place → State → State := modifying shiftRight

/-- ROL (R200). -/
def handleRol : Place → State → State := modifying rotateLeft

/-- ROR (R201). -/
def handleRor : Place → State → State := modifying rotateRight

/-! ### The meaning of each opcode byte -/

/-- $01 ORA (zp,X) (R184). -/
def execOraIndx (zp : Byte) (s : State) : Result :=
  runSeq 0x01 (memOperand (.indx zp) s) handleOra

/-- $05 ORA zp (R184). -/
def execOraZp (zp : Byte) (s : State) : Result :=
  runSeq 0x05 (memOperand (.zp zp) s) handleOra

/-- $06 ASL zp (R198). -/
def execAslZp (zp : Byte) (s : State) : Result :=
  runSeq 0x06 (memPlace (.zp zp) s) handleAsl

/-- $09 ORA # (R184). -/
def execOraImm (v : Byte) (s : State) : Result :=
  runSeq 0x09 (immOperand v s) handleOra

/-- $0A ASL A (R198). -/
def execAslAcc (s : State) : Result :=
  runSeq 0x0A (accPlace s) handleAsl

/-- $0D ORA abs (R184). -/
def execOraAbs (addr : Word) (s : State) : Result :=
  runSeq 0x0D (memOperand (.abs addr) s) handleOra

/-- $0E ASL abs (R198). -/
def execAslAbs (addr : Word) (s : State) : Result :=
  runSeq 0x0E (memPlace (.abs addr) s) handleAsl

/-- $11 ORA (zp),Y (R184). -/
def execOraIndy (zp : Byte) (s : State) : Result :=
  runSeq 0x11 (memOperand (.indy zp) s) handleOra

/-- $15 ORA zp,X (R184). -/
def execOraZpx (zp : Byte) (s : State) : Result :=
  runSeq 0x15 (memOperand (.zpx zp) s) handleOra

/-- $16 ASL zp,X (R198). -/
def execAslZpx (zp : Byte) (s : State) : Result :=
  runSeq 0x16 (memPlace (.zpx zp) s) handleAsl

/-- $19 ORA abs,Y (R184). -/
def execOraAbsy (addr : Word) (s : State) : Result :=
  runSeq 0x19 (memOperand (.absy addr) s) handleOra

/-- $1D ORA abs,X (R184). -/
def execOraAbsx (addr : Word) (s : State) : Result :=
  runSeq 0x1D (memOperand (.absx addr) s) handleOra

/-- $1E ASL abs,X (R198). -/
def execAslAbsx (addr : Word) (s : State) : Result :=
  runSeq 0x1E (memPlace (.absx addr) s) handleAsl

/-- $21 AND (zp,X) (R183). -/
def execAndIndx (zp : Byte) (s : State) : Result :=
  runSeq 0x21 (memOperand (.indx zp) s) handleAnd

/-- $24 BIT zp (R186). -/
def execBitZp (zp : Byte) (s : State) : Result :=
  runSeq 0x24 (memOperand (.zp zp) s) handleBit

/-- $25 AND zp (R183). -/
def execAndZp (zp : Byte) (s : State) : Result :=
  runSeq 0x25 (memOperand (.zp zp) s) handleAnd

/-- $26 ROL zp (R200). -/
def execRolZp (zp : Byte) (s : State) : Result :=
  runSeq 0x26 (memPlace (.zp zp) s) handleRol

/-- $29 AND # (R183). -/
def execAndImm (v : Byte) (s : State) : Result :=
  runSeq 0x29 (immOperand v s) handleAnd

/-- $2A ROL A (R200). -/
def execRolAcc (s : State) : Result :=
  runSeq 0x2A (accPlace s) handleRol

/-- $2C BIT abs (R186). -/
def execBitAbs (addr : Word) (s : State) : Result :=
  runSeq 0x2C (memOperand (.abs addr) s) handleBit

/-- $2D AND abs (R183). -/
def execAndAbs (addr : Word) (s : State) : Result :=
  runSeq 0x2D (memOperand (.abs addr) s) handleAnd

/-- $2E ROL abs (R200). -/
def execRolAbs (addr : Word) (s : State) : Result :=
  runSeq 0x2E (memPlace (.abs addr) s) handleRol

/-- $31 AND (zp),Y (R183). -/
def execAndIndy (zp : Byte) (s : State) : Result :=
  runSeq 0x31 (memOperand (.indy zp) s) handleAnd

/-- $35 AND zp,X (R183). -/
def execAndZpx (zp : Byte) (s : State) : Result :=
  runSeq 0x35 (memOperand (.zpx zp) s) handleAnd

/-- $36 ROL zp,X (R200). -/
def execRolZpx (zp : Byte) (s : State) : Result :=
  runSeq 0x36 (memPlace (.zpx zp) s) handleRol

/-- $39 AND abs,Y (R183). -/
def execAndAbsy (addr : Word) (s : State) : Result :=
  runSeq 0x39 (memOperand (.absy addr) s) handleAnd

/-- $3D AND abs,X (R183). -/
def execAndAbsx (addr : Word) (s : State) : Result :=
  runSeq 0x3D (memOperand (.absx addr) s) handleAnd

/-- $3E ROL abs,X (R200). -/
def execRolAbsx (addr : Word) (s : State) : Result :=
  runSeq 0x3E (memPlace (.absx addr) s) handleRol

/-- $41 EOR (zp,X) (R185). -/
def execEorIndx (zp : Byte) (s : State) : Result :=
  runSeq 0x41 (memOperand (.indx zp) s) handleEor

/-- $45 EOR zp (R185). -/
def execEorZp (zp : Byte) (s : State) : Result :=
  runSeq 0x45 (memOperand (.zp zp) s) handleEor

/-- $46 LSR zp (R199). -/
def execLsrZp (zp : Byte) (s : State) : Result :=
  runSeq 0x46 (memPlace (.zp zp) s) handleLsr

/-- $49 EOR # (R185). -/
def execEorImm (v : Byte) (s : State) : Result :=
  runSeq 0x49 (immOperand v s) handleEor

/-- $4A LSR A (R199). -/
def execLsrAcc (s : State) : Result :=
  runSeq 0x4A (accPlace s) handleLsr

/-- $4D EOR abs (R185). -/
def execEorAbs (addr : Word) (s : State) : Result :=
  runSeq 0x4D (memOperand (.abs addr) s) handleEor

/-- $4E LSR abs (R199). -/
def execLsrAbs (addr : Word) (s : State) : Result :=
  runSeq 0x4E (memPlace (.abs addr) s) handleLsr

/-- $51 EOR (zp),Y (R185). -/
def execEorIndy (zp : Byte) (s : State) : Result :=
  runSeq 0x51 (memOperand (.indy zp) s) handleEor

/-- $55 EOR zp,X (R185). -/
def execEorZpx (zp : Byte) (s : State) : Result :=
  runSeq 0x55 (memOperand (.zpx zp) s) handleEor

/-- $56 LSR zp,X (R199). -/
def execLsrZpx (zp : Byte) (s : State) : Result :=
  runSeq 0x56 (memPlace (.zpx zp) s) handleLsr

/-- $59 EOR abs,Y (R185). -/
def execEorAbsy (addr : Word) (s : State) : Result :=
  runSeq 0x59 (memOperand (.absy addr) s) handleEor

/-- $5D EOR abs,X (R185). -/
def execEorAbsx (addr : Word) (s : State) : Result :=
  runSeq 0x5D (memOperand (.absx addr) s) handleEor

/-- $5E LSR abs,X (R199). -/
def execLsrAbsx (addr : Word) (s : State) : Result :=
  runSeq 0x5E (memPlace (.absx addr) s) handleLsr

/-- $61 ADC (zp,X) (R181). -/
def execAdcIndx (zp : Byte) (s : State) : Result :=
  runSeq 0x61 (memOperand (.indx zp) s) handleAdc

/-- $65 ADC zp (R181). -/
def execAdcZp (zp : Byte) (s : State) : Result :=
  runSeq 0x65 (memOperand (.zp zp) s) handleAdc

/-- $66 ROR zp (R201). -/
def execRorZp (zp : Byte) (s : State) : Result :=
  runSeq 0x66 (memPlace (.zp zp) s) handleRor

/-- $69 ADC # (R181). -/
def execAdcImm (v : Byte) (s : State) : Result :=
  runSeq 0x69 (immOperand v s) handleAdc

/-- $6A ROR A (R201). -/
def execRorAcc (s : State) : Result :=
  runSeq 0x6A (accPlace s) handleRor

/-- $6D ADC abs (R181). -/
def execAdcAbs (addr : Word) (s : State) : Result :=
  runSeq 0x6D (memOperand (.abs addr) s) handleAdc

/-- $6E ROR abs (R201). -/
def execRorAbs (addr : Word) (s : State) : Result :=
  runSeq 0x6E (memPlace (.abs addr) s) handleRor

/-- $71 ADC (zp),Y (R181). -/
def execAdcIndy (zp : Byte) (s : State) : Result :=
  runSeq 0x71 (memOperand (.indy zp) s) handleAdc

/-- $75 ADC zp,X (R181). -/
def execAdcZpx (zp : Byte) (s : State) : Result :=
  runSeq 0x75 (memOperand (.zpx zp) s) handleAdc

/-- $76 ROR zp,X (R201). -/
def execRorZpx (zp : Byte) (s : State) : Result :=
  runSeq 0x76 (memPlace (.zpx zp) s) handleRor

/-- $79 ADC abs,Y (R181). -/
def execAdcAbsy (addr : Word) (s : State) : Result :=
  runSeq 0x79 (memOperand (.absy addr) s) handleAdc

/-- $7D ADC abs,X (R181). -/
def execAdcAbsx (addr : Word) (s : State) : Result :=
  runSeq 0x7D (memOperand (.absx addr) s) handleAdc

/-- $7E ROR abs,X (R201). -/
def execRorAbsx (addr : Word) (s : State) : Result :=
  runSeq 0x7E (memPlace (.absx addr) s) handleRor

/-- $88 DEY (R196). -/
def execDey (s : State) : Result :=
  runImplied 0x88 handleDey s

/-- $C0 CPY # (R190). -/
def execCpyImm (v : Byte) (s : State) : Result :=
  runSeq 0xC0 (immOperand v s) handleCpy

/-- $C1 CMP (zp,X) (R188). -/
def execCmpIndx (zp : Byte) (s : State) : Result :=
  runSeq 0xC1 (memOperand (.indx zp) s) handleCmp

/-- $C4 CPY zp (R190). -/
def execCpyZp (zp : Byte) (s : State) : Result :=
  runSeq 0xC4 (memOperand (.zp zp) s) handleCpy

/-- $C5 CMP zp (R188). -/
def execCmpZp (zp : Byte) (s : State) : Result :=
  runSeq 0xC5 (memOperand (.zp zp) s) handleCmp

/-- $C6 DEC zp (R192). -/
def execDecZp (zp : Byte) (s : State) : Result :=
  runSeq 0xC6 (memPlace (.zp zp) s) handleDec

/-- $C8 INY (R194). -/
def execIny (s : State) : Result :=
  runImplied 0xC8 handleIny s

/-- $C9 CMP # (R188). -/
def execCmpImm (v : Byte) (s : State) : Result :=
  runSeq 0xC9 (immOperand v s) handleCmp

/-- $CA DEX (R195). -/
def execDex (s : State) : Result :=
  runImplied 0xCA handleDex s

/-- $CC CPY abs (R190). -/
def execCpyAbs (addr : Word) (s : State) : Result :=
  runSeq 0xCC (memOperand (.abs addr) s) handleCpy

/-- $CD CMP abs (R188). -/
def execCmpAbs (addr : Word) (s : State) : Result :=
  runSeq 0xCD (memOperand (.abs addr) s) handleCmp

/-- $CE DEC abs (R192). -/
def execDecAbs (addr : Word) (s : State) : Result :=
  runSeq 0xCE (memPlace (.abs addr) s) handleDec

/-- $D1 CMP (zp),Y (R188). -/
def execCmpIndy (zp : Byte) (s : State) : Result :=
  runSeq 0xD1 (memOperand (.indy zp) s) handleCmp

/-- $D5 CMP zp,X (R188). -/
def execCmpZpx (zp : Byte) (s : State) : Result :=
  runSeq 0xD5 (memOperand (.zpx zp) s) handleCmp

/-- $D6 DEC zp,X (R192). -/
def execDecZpx (zp : Byte) (s : State) : Result :=
  runSeq 0xD6 (memPlace (.zpx zp) s) handleDec

/-- $D9 CMP abs,Y (R188). -/
def execCmpAbsy (addr : Word) (s : State) : Result :=
  runSeq 0xD9 (memOperand (.absy addr) s) handleCmp

/-- $DD CMP abs,X (R188). -/
def execCmpAbsx (addr : Word) (s : State) : Result :=
  runSeq 0xDD (memOperand (.absx addr) s) handleCmp

/-- $DE DEC abs,X (R192). -/
def execDecAbsx (addr : Word) (s : State) : Result :=
  runSeq 0xDE (memPlace (.absx addr) s) handleDec

/-- $E0 CPX # (R189). -/
def execCpxImm (v : Byte) (s : State) : Result :=
  runSeq 0xE0 (immOperand v s) handleCpx

/-- $E1 SBC (zp,X) (R182). -/
def execSbcIndx (zp : Byte) (s : State) : Result :=
  runSeq 0xE1 (memOperand (.indx zp) s) handleSbc

/-- $E4 CPX zp (R189). -/
def execCpxZp (zp : Byte) (s : State) : Result :=
  runSeq 0xE4 (memOperand (.zp zp) s) handleCpx

/-- $E5 SBC zp (R182). -/
def execSbcZp (zp : Byte) (s : State) : Result :=
  runSeq 0xE5 (memOperand (.zp zp) s) handleSbc

/-- $E6 INC zp (R191). -/
def execIncZp (zp : Byte) (s : State) : Result :=
  runSeq 0xE6 (memPlace (.zp zp) s) handleInc

/-- $E8 INX (R193). -/
def execInx (s : State) : Result :=
  runImplied 0xE8 handleInx s

/-- $E9 SBC # (R182). -/
def execSbcImm (v : Byte) (s : State) : Result :=
  runSeq 0xE9 (immOperand v s) handleSbc

/-- $EC CPX abs (R189). -/
def execCpxAbs (addr : Word) (s : State) : Result :=
  runSeq 0xEC (memOperand (.abs addr) s) handleCpx

/-- $ED SBC abs (R182). -/
def execSbcAbs (addr : Word) (s : State) : Result :=
  runSeq 0xED (memOperand (.abs addr) s) handleSbc

/-- $EE INC abs (R191). -/
def execIncAbs (addr : Word) (s : State) : Result :=
  runSeq 0xEE (memPlace (.abs addr) s) handleInc

/-- $F1 SBC (zp),Y (R182). -/
def execSbcIndy (zp : Byte) (s : State) : Result :=
  runSeq 0xF1 (memOperand (.indy zp) s) handleSbc

/-- $F5 SBC zp,X (R182). -/
def execSbcZpx (zp : Byte) (s : State) : Result :=
  runSeq 0xF5 (memOperand (.zpx zp) s) handleSbc

/-- $F6 INC zp,X (R191). -/
def execIncZpx (zp : Byte) (s : State) : Result :=
  runSeq 0xF6 (memPlace (.zpx zp) s) handleInc

/-- $F9 SBC abs,Y (R182). -/
def execSbcAbsy (addr : Word) (s : State) : Result :=
  runSeq 0xF9 (memOperand (.absy addr) s) handleSbc

/-- $FD SBC abs,X (R182). -/
def execSbcAbsx (addr : Word) (s : State) : Result :=
  runSeq 0xFD (memOperand (.absx addr) s) handleSbc

/-- $FE INC abs,X (R191). -/
def execIncAbsx (addr : Word) (s : State) : Result :=
  runSeq 0xFE (memPlace (.absx addr) s) handleInc

end Sys2Proof.Machine
end

