-- ==== Sys2Proof/Machine/Control.lean ====
section
/-! DEFINITION. Branches, jumps, subroutine call and return (spec/43_control_transfer.md R230 to R241): the semantic
handler of each mnemonic, then the meaning of each opcode byte. -/

namespace Sys2Proof.Machine

/-- Whether a taken branch to `t` is charged the page-cross cycle (R230): the target's page is not that of the
instruction after the branch. Under `SourceHeuristic` the charge is made only when PC has changed (R120). -/
def branchCrossCharged (t : Word) (s : State) : Bool :=
  page (s.pc + 2) != page t &&
    match s.params.pcUpdate with
    | .architectural => true
    | .sourceHeuristic => t != s.pc

/-- `Branch(cond)` (R230). -/
def branch (cond : Flags → Bool) (t : Word) (s : State) : Next × State :=
  if cond s.p then (.transfer t, addCycles (1 + (branchCrossCharged t s).toNat) s)
  else (.sequential, s)

/-- BCC (R231). -/
def handleBcc : Word → State → Next × State := branch fun p => !p.c

/-- BCS (R232). -/
def handleBcs : Word → State → Next × State := branch fun p => p.c

/-- BEQ (R233). -/
def handleBeq : Word → State → Next × State := branch fun p => p.z

/-- BMI (R234). -/
def handleBmi : Word → State → Next × State := branch fun p => p.n

/-- BNE (R235). -/
def handleBne : Word → State → Next × State := branch fun p => !p.z

/-- BPL (R236). -/
def handleBpl : Word → State → Next × State := branch fun p => !p.n

/-- BVC (R237). -/
def handleBvc : Word → State → Next × State := branch fun p => !p.v

/-- BVS (R238). -/
def handleBvs : Word → State → Next × State := branch fun p => p.v

/-- JMP (R239), to the address or to the target the resolver read. -/
def handleJmp (t : Word) (s : State) : Next × State := (.transfer t, s)

/-- JSR (R240): push the address of its own last byte, then transfer. -/
def handleJsr (t : Word) (s : State) : Next × State := (.transfer t, push16 (s.pc + 2) s)

/-- RTS (R241): transfer to the popped address plus one. -/
def handleRts (_ : Unit) (s : State) : Next × State :=
  let (t, s) := pop16 s
  (.transfer (t + 1), s)

/-! ### The meaning of each opcode byte -/

/-- $10 BPL rel (R236). -/
def execBpl (off : Byte) (s : State) : Result :=
  run 0x10 (relTarget off s) handleBpl

/-- $20 JSR abs (R240). -/
def execJsr (addr : Word) (s : State) : Result :=
  run 0x20 (absTarget addr s) handleJsr

/-- $30 BMI rel (R234). -/
def execBmi (off : Byte) (s : State) : Result :=
  run 0x30 (relTarget off s) handleBmi

/-- $4C JMP abs (R239). -/
def execJmpAbs (addr : Word) (s : State) : Result :=
  run 0x4C (absTarget addr s) handleJmp

/-- $50 BVC rel (R237). -/
def execBvc (off : Byte) (s : State) : Result :=
  run 0x50 (relTarget off s) handleBvc

/-- $60 RTS (R241). -/
def execRts (s : State) : Result :=
  run 0x60 (noOperand s) handleRts

/-- $6C JMP (abs) (R239). -/
def execJmpInd (addr : Word) (s : State) : Result :=
  run 0x6C (indTarget addr s) handleJmp

/-- $70 BVS rel (R238). -/
def execBvs (off : Byte) (s : State) : Result :=
  run 0x70 (relTarget off s) handleBvs

/-- $90 BCC rel (R231). -/
def execBcc (off : Byte) (s : State) : Result :=
  run 0x90 (relTarget off s) handleBcc

/-- $B0 BCS rel (R232). -/
def execBcs (off : Byte) (s : State) : Result :=
  run 0xB0 (relTarget off s) handleBcs

/-- $D0 BNE rel (R235). -/
def execBne (off : Byte) (s : State) : Result :=
  run 0xD0 (relTarget off s) handleBne

/-- $F0 BEQ rel (R233). -/
def execBeq (off : Byte) (s : State) : Result :=
  run 0xF0 (relTarget off s) handleBeq

end Sys2Proof.Machine
end

