-- ==== Sys2Proof/Machine/Illegal.lean ====
section
/-! DEFINITION. The 25 unmapped opcode bytes (spec/30_encoding.md R112, spec/60_exceptions.md R333, R334). Each is a
fatal error: the fault record is set and nothing else changes. The Step answers the state with the record set; the
machine takes no Step from it (log entry 5). -/

namespace Sys2Proof.Machine

/-- $02, unmapped (R112). -/
def execIllegal02 (s : State) : Result := .next (raiseIllegal 0x02 s)

/-- $0B, unmapped (R112). -/
def execIllegal0B (s : State) : Result := .next (raiseIllegal 0x0B s)

/-- $12, unmapped (R112). -/
def execIllegal12 (s : State) : Result := .next (raiseIllegal 0x12 s)

/-- $22, unmapped (R112). -/
def execIllegal22 (s : State) : Result := .next (raiseIllegal 0x22 s)

/-- $2B, unmapped (R112). -/
def execIllegal2B (s : State) : Result := .next (raiseIllegal 0x2B s)

/-- $32, unmapped (R112). -/
def execIllegal32 (s : State) : Result := .next (raiseIllegal 0x32 s)

/-- $42, unmapped (R112). -/
def execIllegal42 (s : State) : Result := .next (raiseIllegal 0x42 s)

/-- $4B, unmapped (R112). -/
def execIllegal4B (s : State) : Result := .next (raiseIllegal 0x4B s)

/-- $52, unmapped (R112). -/
def execIllegal52 (s : State) : Result := .next (raiseIllegal 0x52 s)

/-- $62, unmapped (R112). -/
def execIllegal62 (s : State) : Result := .next (raiseIllegal 0x62 s)

/-- $6B, unmapped (R112). -/
def execIllegal6B (s : State) : Result := .next (raiseIllegal 0x6B s)

/-- $72, unmapped (R112). -/
def execIllegal72 (s : State) : Result := .next (raiseIllegal 0x72 s)

/-- $8B, unmapped (R112). -/
def execIllegal8B (s : State) : Result := .next (raiseIllegal 0x8B s)

/-- $92, unmapped (R112). -/
def execIllegal92 (s : State) : Result := .next (raiseIllegal 0x92 s)

/-- $93, unmapped (R112). -/
def execIllegal93 (s : State) : Result := .next (raiseIllegal 0x93 s)

/-- $9B, unmapped (R112). -/
def execIllegal9B (s : State) : Result := .next (raiseIllegal 0x9B s)

/-- $9C, unmapped (R112). -/
def execIllegal9C (s : State) : Result := .next (raiseIllegal 0x9C s)

/-- $9E, unmapped (R112). -/
def execIllegal9E (s : State) : Result := .next (raiseIllegal 0x9E s)

/-- $9F, unmapped (R112). -/
def execIllegal9F (s : State) : Result := .next (raiseIllegal 0x9F s)

/-- $AB, unmapped (R112). -/
def execIllegalAB (s : State) : Result := .next (raiseIllegal 0xAB s)

/-- $B2, unmapped (R112). -/
def execIllegalB2 (s : State) : Result := .next (raiseIllegal 0xB2 s)

/-- $BB, unmapped (R112). -/
def execIllegalBB (s : State) : Result := .next (raiseIllegal 0xBB s)

/-- $CB, unmapped (R112). -/
def execIllegalCB (s : State) : Result := .next (raiseIllegal 0xCB s)

/-- $D2, unmapped (R112). -/
def execIllegalD2 (s : State) : Result := .next (raiseIllegal 0xD2 s)

/-- $F2, unmapped (R112). -/
def execIllegalF2 (s : State) : Result := .next (raiseIllegal 0xF2 s)

end Sys2Proof.Machine
end

