-- ==== Sys2Proof/Machine/LoadStore.lean ====
section
/-! DEFINITION. Loads, stores and register transfers (spec/41_load_store_transfer.md R150 to R162): the semantic handler
of each mnemonic, then the meaning of each opcode byte. -/

namespace Sys2Proof.Machine

/-- LDA (R151). -/
def handleLda : Operand → State → State := reading fun v s => (s.setA v).setP (setNZ v s.p)

/-- LDX (R152). -/
def handleLdx : Operand → State → State := reading fun v s => (s.setX v).setP (setNZ v s.p)

/-- LDY (R153). -/
def handleLdy : Operand → State → State := reading fun v s => (s.setY v).setP (setNZ v s.p)

/-- STA (R154). -/
def handleSta (t : Place) (s : State) : State := opWrite t s.a s

/-- STX (R155). -/
def handleStx (t : Place) (s : State) : State := opWrite t s.x s

/-- STY (R156). -/
def handleSty (t : Place) (s : State) : State := opWrite t s.y s

/-- TAX (R157). -/
def handleTax (s : State) : State := (s.setX s.a).setP (setNZ s.a s.p)

/-- TAY (R158). -/
def handleTay (s : State) : State := (s.setY s.a).setP (setNZ s.a s.p)

/-- TXA (R159). -/
def handleTxa (s : State) : State := (s.setA s.x).setP (setNZ s.x s.p)

/-- TYA (R160). -/
def handleTya (s : State) : State := (s.setA s.y).setP (setNZ s.y s.p)

/-- TSX (R161). -/
def handleTsx (s : State) : State := (s.setX s.sp).setP (setNZ s.sp s.p)

/-- TXS (R162): no flag is written. -/
def handleTxs (s : State) : State := s.setSp s.x

/-! ### The meaning of each opcode byte -/

/-- $81 STA (zp,X) (R154). -/
def execStaIndx (zp : Byte) (s : State) : Result :=
  runSeq 0x81 (memPlace (.indx zp) s) handleSta

/-- $84 STY zp (R156). -/
def execStyZp (zp : Byte) (s : State) : Result :=
  runSeq 0x84 (memPlace (.zp zp) s) handleSty

/-- $85 STA zp (R154). -/
def execStaZp (zp : Byte) (s : State) : Result :=
  runSeq 0x85 (memPlace (.zp zp) s) handleSta

/-- $86 STX zp (R155). -/
def execStxZp (zp : Byte) (s : State) : Result :=
  runSeq 0x86 (memPlace (.zp zp) s) handleStx

/-- $8A TXA (R159). -/
def execTxa (s : State) : Result :=
  runImplied 0x8A handleTxa s

/-- $8C STY abs (R156). -/
def execStyAbs (addr : Word) (s : State) : Result :=
  runSeq 0x8C (memPlace (.abs addr) s) handleSty

/-- $8D STA abs (R154). -/
def execStaAbs (addr : Word) (s : State) : Result :=
  runSeq 0x8D (memPlace (.abs addr) s) handleSta

/-- $8E STX abs (R155). -/
def execStxAbs (addr : Word) (s : State) : Result :=
  runSeq 0x8E (memPlace (.abs addr) s) handleStx

/-- $91 STA (zp),Y (R154). -/
def execStaIndy (zp : Byte) (s : State) : Result :=
  runSeq 0x91 (memPlace (.indy zp) s) handleSta

/-- $94 STY zp,X (R156). -/
def execStyZpx (zp : Byte) (s : State) : Result :=
  runSeq 0x94 (memPlace (.zpx zp) s) handleSty

/-- $95 STA zp,X (R154). -/
def execStaZpx (zp : Byte) (s : State) : Result :=
  runSeq 0x95 (memPlace (.zpx zp) s) handleSta

/-- $96 STX zp,Y (R155). -/
def execStxZpy (zp : Byte) (s : State) : Result :=
  runSeq 0x96 (memPlace (.zpy zp) s) handleStx

/-- $98 TYA (R160). -/
def execTya (s : State) : Result :=
  runImplied 0x98 handleTya s

/-- $99 STA abs,Y (R154). -/
def execStaAbsy (addr : Word) (s : State) : Result :=
  runSeq 0x99 (memPlace (.absy addr) s) handleSta

/-- $9A TXS (R162). -/
def execTxs (s : State) : Result :=
  runImplied 0x9A handleTxs s

/-- $9D STA abs,X (R154). -/
def execStaAbsx (addr : Word) (s : State) : Result :=
  runSeq 0x9D (memPlace (.absx addr) s) handleSta

/-- $A0 LDY # (R153). -/
def execLdyImm (v : Byte) (s : State) : Result :=
  runSeq 0xA0 (immOperand v s) handleLdy

/-- $A1 LDA (zp,X) (R151). -/
def execLdaIndx (zp : Byte) (s : State) : Result :=
  runSeq 0xA1 (memOperand (.indx zp) s) handleLda

/-- $A2 LDX # (R152). -/
def execLdxImm (v : Byte) (s : State) : Result :=
  runSeq 0xA2 (immOperand v s) handleLdx

/-- $A4 LDY zp (R153). -/
def execLdyZp (zp : Byte) (s : State) : Result :=
  runSeq 0xA4 (memOperand (.zp zp) s) handleLdy

/-- $A5 LDA zp (R151). -/
def execLdaZp (zp : Byte) (s : State) : Result :=
  runSeq 0xA5 (memOperand (.zp zp) s) handleLda

/-- $A6 LDX zp (R152). -/
def execLdxZp (zp : Byte) (s : State) : Result :=
  runSeq 0xA6 (memOperand (.zp zp) s) handleLdx

/-- $A8 TAY (R158). -/
def execTay (s : State) : Result :=
  runImplied 0xA8 handleTay s

/-- $A9 LDA # (R151). -/
def execLdaImm (v : Byte) (s : State) : Result :=
  runSeq 0xA9 (immOperand v s) handleLda

/-- $AA TAX (R157). -/
def execTax (s : State) : Result :=
  runImplied 0xAA handleTax s

/-- $AC LDY abs (R153). -/
def execLdyAbs (addr : Word) (s : State) : Result :=
  runSeq 0xAC (memOperand (.abs addr) s) handleLdy

/-- $AD LDA abs (R151). -/
def execLdaAbs (addr : Word) (s : State) : Result :=
  runSeq 0xAD (memOperand (.abs addr) s) handleLda

/-- $AE LDX abs (R152). -/
def execLdxAbs (addr : Word) (s : State) : Result :=
  runSeq 0xAE (memOperand (.abs addr) s) handleLdx

/-- $B1 LDA (zp),Y (R151). -/
def execLdaIndy (zp : Byte) (s : State) : Result :=
  runSeq 0xB1 (memOperand (.indy zp) s) handleLda

/-- $B4 LDY zp,X (R153). -/
def execLdyZpx (zp : Byte) (s : State) : Result :=
  runSeq 0xB4 (memOperand (.zpx zp) s) handleLdy

/-- $B5 LDA zp,X (R151). -/
def execLdaZpx (zp : Byte) (s : State) : Result :=
  runSeq 0xB5 (memOperand (.zpx zp) s) handleLda

/-- $B6 LDX zp,Y (R152). -/
def execLdxZpy (zp : Byte) (s : State) : Result :=
  runSeq 0xB6 (memOperand (.zpy zp) s) handleLdx

/-- $B9 LDA abs,Y (R151). -/
def execLdaAbsy (addr : Word) (s : State) : Result :=
  runSeq 0xB9 (memOperand (.absy addr) s) handleLda

/-- $BA TSX (R161). -/
def execTsx (s : State) : Result :=
  runImplied 0xBA handleTsx s

/-- $BC LDY abs,X (R153). -/
def execLdyAbsx (addr : Word) (s : State) : Result :=
  runSeq 0xBC (memOperand (.absx addr) s) handleLdy

/-- $BD LDA abs,X (R151). -/
def execLdaAbsx (addr : Word) (s : State) : Result :=
  runSeq 0xBD (memOperand (.absx addr) s) handleLda

/-- $BE LDX abs,Y (R152). -/
def execLdxAbsy (addr : Word) (s : State) : Result :=
  runSeq 0xBE (memOperand (.absy addr) s) handleLdx

end Sys2Proof.Machine
end

