-- ==== Sys2Proof/Machine/System.lean ====
section
/-! DEFINITION. Stack, flag, no-operation and system instructions (spec/44_stack_flags_system.md R260 to R273): the
semantic handler of each mnemonic, then the meaning of each opcode byte. -/

namespace Sys2Proof.Machine

/-- PHA (R260). -/
def handlePha (s : State) : State := push s.a s

/-- PHP (R261). -/
def handlePhp (s : State) : State := push (softwareStatus s.p) s

/-- PLA (R262). -/
def handlePla (s : State) : State :=
  let (v, s) := pop s
  (s.setA v).setP (setNZ v s.p)

/-- PLP (R263). -/
def handlePlp (s : State) : State :=
  let (v, s) := pop s
  s.setP (loadedFlags v)

/-- CLC (R264). -/
def handleClc (s : State) : State := s.setP { s.p with c := false }

/-- CLD (R265). -/
def handleCld (s : State) : State := s.setP { s.p with d := false }

/-- CLI (R266). -/
def handleCli (s : State) : State := s.setP { s.p with i := false }

/-- CLV (R267). -/
def handleClv (s : State) : State := s.setP { s.p with v := false }

/-- SEC (R268). -/
def handleSec (s : State) : State := s.setP { s.p with c := true }

/-- SED (R269). -/
def handleSed (s : State) : State := s.setP { s.p with d := true }

/-- SEI (R270). -/
def handleSei (s : State) : State := s.setP { s.p with i := true }

/-- NOP, official (R271) and unofficial (R300): nothing beyond the operand bytes the resolver consumed. -/
def handleNop {α : Type} (_ : α) (s : State) : State := s

/-- BRK (R272): the vectoring of R328 inline, with PC + 2 and B = 1 pushed, to the cached IRQ vector. Its 7 cycles are
the table's, and it sets no running marker. -/
def handleBrk (_ : Unit) (s : State) : Next × State :=
  (.transfer s.irqAddress, enterHandler (s.pc + 2) (softwareStatus s.p) s)

/-- RTI (R273). -/
def handleRti (_ : Unit) (s : State) : Next × State :=
  let (t, s) := returnFromInterrupt s
  (.transfer t, s)

/-! ### The meaning of each opcode byte -/

/-- $00 BRK (R272). -/
def execBrk (s : State) : Result :=
  run 0x00 (noOperand s) handleBrk

/-- $08 PHP (R261). -/
def execPhp (s : State) : Result :=
  runImplied 0x08 handlePhp s

/-- $18 CLC (R264). -/
def execClc (s : State) : Result :=
  runImplied 0x18 handleClc s

/-- $28 PLP (R263). -/
def execPlp (s : State) : Result :=
  runImplied 0x28 handlePlp s

/-- $38 SEC (R268). -/
def execSec (s : State) : Result :=
  runImplied 0x38 handleSec s

/-- $40 RTI (R273). -/
def execRti (s : State) : Result :=
  run 0x40 (noOperand s) handleRti

/-- $48 PHA (R260). -/
def execPha (s : State) : Result :=
  runImplied 0x48 handlePha s

/-- $58 CLI (R266). -/
def execCli (s : State) : Result :=
  runImplied 0x58 handleCli s

/-- $68 PLA (R262). -/
def execPla (s : State) : Result :=
  runImplied 0x68 handlePla s

/-- $78 SEI (R270). -/
def execSei (s : State) : Result :=
  runImplied 0x78 handleSei s

/-- $B8 CLV (R267). -/
def execClv (s : State) : Result :=
  runImplied 0xB8 handleClv s

/-- $D8 CLD (R265). -/
def execCld (s : State) : Result :=
  runImplied 0xD8 handleCld s

/-- $EA NOP (R271). -/
def execNop (s : State) : Result :=
  runSeq 0xEA (noOperand s) handleNop

/-- $F8 SED (R269). -/
def execSed (s : State) : Result :=
  runImplied 0xF8 handleSed s

end Sys2Proof.Machine
end

