-- ==== Sys2Proof/Machine/Unofficial.lean ====
section
/-! DEFINITION. The unofficial instructions (spec/45_unofficial.md R290 to R300): the semantic handler of each mnemonic,
composed of the two canonical handlers where R290 says so, then the meaning of each opcode byte. -/

namespace Sys2Proof.Machine

/-- The composition principle (R290): the read-modify-write handler, then the second handler with its own read of the
same operand. -/
def composed (first : Place → State → State) (second : Operand → State → State) (t : Place) (s : State) : State :=
  second (.place t) (first t s)

/-- SLO (R291): ASL, then ORA. -/
def handleSlo : Place → State → State := composed handleAsl handleOra

/-- RLA (R292): ROL, then AND. -/
def handleRla : Place → State → State := composed handleRol handleAnd

/-- SRE (R293): LSR, then EOR. -/
def handleSre : Place → State → State := composed handleLsr handleEor

/-- RRA (R294): ROR, then ADC. -/
def handleRra : Place → State → State := composed handleRor handleAdc

/-- DCP (R295): DEC, then CMP. -/
def handleDcp : Place → State → State := composed handleDec handleCmp

/-- ISC (R296): INC, then SBC. -/
def handleIsc : Place → State → State := composed handleInc handleSbc

/-- LAX (R297): A and X from one read. -/
def handleLax : Operand → State → State := reading fun v s => ((s.setA v).setX v).setP (setNZ v s.p)

/-- SAX (R298): stores `A AND X`; no flag. -/
def handleSax (t : Place) (s : State) : State := opWrite t (s.a &&& s.x) s

/-! ### The meaning of each opcode byte -/

/-- $03 SLO (zp,X) (R291). -/
def execSloIndx (zp : Byte) (s : State) : Result :=
  runSeq 0x03 (memPlace (.indx zp) s) handleSlo

/-- $04 NOP zp (R300). -/
def execNopZp04 (zp : Byte) (s : State) : Result :=
  runSeq 0x04 (memPlace (.zp zp) s) handleNop

/-- $07 SLO zp (R291). -/
def execSloZp (zp : Byte) (s : State) : Result :=
  runSeq 0x07 (memPlace (.zp zp) s) handleSlo

/-- $0C NOP abs (R300). -/
def execNopAbs0C (addr : Word) (s : State) : Result :=
  runSeq 0x0C (memPlace (.abs addr) s) handleNop

/-- $0F SLO abs (R291). -/
def execSloAbs (addr : Word) (s : State) : Result :=
  runSeq 0x0F (memPlace (.abs addr) s) handleSlo

/-- $13 SLO (zp),Y (R291). -/
def execSloIndy (zp : Byte) (s : State) : Result :=
  runSeq 0x13 (memPlace (.indy zp) s) handleSlo

/-- $14 NOP zp,X (R300). -/
def execNopZpx14 (zp : Byte) (s : State) : Result :=
  runSeq 0x14 (memPlace (.zpx zp) s) handleNop

/-- $17 SLO zp,X (R291). -/
def execSloZpx (zp : Byte) (s : State) : Result :=
  runSeq 0x17 (memPlace (.zpx zp) s) handleSlo

/-- $1A NOP (R300). -/
def execNopImp1A (s : State) : Result :=
  runSeq 0x1A (noOperand s) handleNop

/-- $1B SLO abs,Y (R291). -/
def execSloAbsy (addr : Word) (s : State) : Result :=
  runSeq 0x1B (memPlace (.absy addr) s) handleSlo

/-- $1C NOP abs,X (R300). -/
def execNopAbsx1C (addr : Word) (s : State) : Result :=
  runSeq 0x1C (memPlace (.absx addr) s) handleNop

/-- $1F SLO abs,X (R291). -/
def execSloAbsx (addr : Word) (s : State) : Result :=
  runSeq 0x1F (memPlace (.absx addr) s) handleSlo

/-- $23 RLA (zp,X) (R292). -/
def execRlaIndx (zp : Byte) (s : State) : Result :=
  runSeq 0x23 (memPlace (.indx zp) s) handleRla

/-- $27 RLA zp (R292). -/
def execRlaZp (zp : Byte) (s : State) : Result :=
  runSeq 0x27 (memPlace (.zp zp) s) handleRla

/-- $2F RLA abs (R292). -/
def execRlaAbs (addr : Word) (s : State) : Result :=
  runSeq 0x2F (memPlace (.abs addr) s) handleRla

/-- $33 RLA (zp),Y (R292). -/
def execRlaIndy (zp : Byte) (s : State) : Result :=
  runSeq 0x33 (memPlace (.indy zp) s) handleRla

/-- $34 NOP zp,X (R300). -/
def execNopZpx34 (zp : Byte) (s : State) : Result :=
  runSeq 0x34 (memPlace (.zpx zp) s) handleNop

/-- $37 RLA zp,X (R292). -/
def execRlaZpx (zp : Byte) (s : State) : Result :=
  runSeq 0x37 (memPlace (.zpx zp) s) handleRla

/-- $3A NOP (R300). -/
def execNopImp3A (s : State) : Result :=
  runSeq 0x3A (noOperand s) handleNop

/-- $3B RLA abs,Y (R292). -/
def execRlaAbsy (addr : Word) (s : State) : Result :=
  runSeq 0x3B (memPlace (.absy addr) s) handleRla

/-- $3C NOP abs,X (R300). -/
def execNopAbsx3C (addr : Word) (s : State) : Result :=
  runSeq 0x3C (memPlace (.absx addr) s) handleNop

/-- $3F RLA abs,X (R292). -/
def execRlaAbsx (addr : Word) (s : State) : Result :=
  runSeq 0x3F (memPlace (.absx addr) s) handleRla

/-- $43 SRE (zp,X) (R293). -/
def execSreIndx (zp : Byte) (s : State) : Result :=
  runSeq 0x43 (memPlace (.indx zp) s) handleSre

/-- $44 NOP zp (R300). -/
def execNopZp44 (zp : Byte) (s : State) : Result :=
  runSeq 0x44 (memPlace (.zp zp) s) handleNop

/-- $47 SRE zp (R293). -/
def execSreZp (zp : Byte) (s : State) : Result :=
  runSeq 0x47 (memPlace (.zp zp) s) handleSre

/-- $4F SRE abs (R293). -/
def execSreAbs (addr : Word) (s : State) : Result :=
  runSeq 0x4F (memPlace (.abs addr) s) handleSre

/-- $53 SRE (zp),Y (R293). -/
def execSreIndy (zp : Byte) (s : State) : Result :=
  runSeq 0x53 (memPlace (.indy zp) s) handleSre

/-- $54 NOP zp,X (R300). -/
def execNopZpx54 (zp : Byte) (s : State) : Result :=
  runSeq 0x54 (memPlace (.zpx zp) s) handleNop

/-- $57 SRE zp,X (R293). -/
def execSreZpx (zp : Byte) (s : State) : Result :=
  runSeq 0x57 (memPlace (.zpx zp) s) handleSre

/-- $5A NOP (R300). -/
def execNopImp5A (s : State) : Result :=
  runSeq 0x5A (noOperand s) handleNop

/-- $5B SRE abs,Y (R293). -/
def execSreAbsy (addr : Word) (s : State) : Result :=
  runSeq 0x5B (memPlace (.absy addr) s) handleSre

/-- $5C NOP abs,X (R300). -/
def execNopAbsx5C (addr : Word) (s : State) : Result :=
  runSeq 0x5C (memPlace (.absx addr) s) handleNop

/-- $5F SRE abs,X (R293). -/
def execSreAbsx (addr : Word) (s : State) : Result :=
  runSeq 0x5F (memPlace (.absx addr) s) handleSre

/-- $63 RRA (zp,X) (R294). -/
def execRraIndx (zp : Byte) (s : State) : Result :=
  runSeq 0x63 (memPlace (.indx zp) s) handleRra

/-- $64 NOP zp (R300). -/
def execNopZp64 (zp : Byte) (s : State) : Result :=
  runSeq 0x64 (memPlace (.zp zp) s) handleNop

/-- $67 RRA zp (R294). -/
def execRraZp (zp : Byte) (s : State) : Result :=
  runSeq 0x67 (memPlace (.zp zp) s) handleRra

/-- $6F RRA abs (R294). -/
def execRraAbs (addr : Word) (s : State) : Result :=
  runSeq 0x6F (memPlace (.abs addr) s) handleRra

/-- $73 RRA (zp),Y (R294). -/
def execRraIndy (zp : Byte) (s : State) : Result :=
  runSeq 0x73 (memPlace (.indy zp) s) handleRra

/-- $74 NOP zp,X (R300). -/
def execNopZpx74 (zp : Byte) (s : State) : Result :=
  runSeq 0x74 (memPlace (.zpx zp) s) handleNop

/-- $77 RRA zp,X (R294). -/
def execRraZpx (zp : Byte) (s : State) : Result :=
  runSeq 0x77 (memPlace (.zpx zp) s) handleRra

/-- $7A NOP (R300). -/
def execNopImp7A (s : State) : Result :=
  runSeq 0x7A (noOperand s) handleNop

/-- $7B RRA abs,Y (R294). -/
def execRraAbsy (addr : Word) (s : State) : Result :=
  runSeq 0x7B (memPlace (.absy addr) s) handleRra

/-- $7C NOP abs,X (R300). -/
def execNopAbsx7C (addr : Word) (s : State) : Result :=
  runSeq 0x7C (memPlace (.absx addr) s) handleNop

/-- $7F RRA abs,X (R294). -/
def execRraAbsx (addr : Word) (s : State) : Result :=
  runSeq 0x7F (memPlace (.absx addr) s) handleRra

/-- $80 NOP # (R300). -/
def execNopImm80 (v : Byte) (s : State) : Result :=
  runSeq 0x80 (immOperand v s) handleNop

/-- $82 NOP # (R300). -/
def execNopImm82 (v : Byte) (s : State) : Result :=
  runSeq 0x82 (immOperand v s) handleNop

/-- $83 SAX (zp,X) (R298). -/
def execSaxIndx (zp : Byte) (s : State) : Result :=
  runSeq 0x83 (memPlace (.indx zp) s) handleSax

/-- $87 SAX zp (R298). -/
def execSaxZp (zp : Byte) (s : State) : Result :=
  runSeq 0x87 (memPlace (.zp zp) s) handleSax

/-- $89 NOP # (R300). -/
def execNopImm89 (v : Byte) (s : State) : Result :=
  runSeq 0x89 (immOperand v s) handleNop

/-- $8F SAX abs (R298). -/
def execSaxAbs (addr : Word) (s : State) : Result :=
  runSeq 0x8F (memPlace (.abs addr) s) handleSax

/-- $97 SAX zp,Y (R298). -/
def execSaxZpy (zp : Byte) (s : State) : Result :=
  runSeq 0x97 (memPlace (.zpy zp) s) handleSax

/-- $A3 LAX (zp,X) (R297). -/
def execLaxIndx (zp : Byte) (s : State) : Result :=
  runSeq 0xA3 (memOperand (.indx zp) s) handleLax

/-- $A7 LAX zp (R297). -/
def execLaxZp (zp : Byte) (s : State) : Result :=
  runSeq 0xA7 (memOperand (.zp zp) s) handleLax

/-- $AF LAX abs (R297). -/
def execLaxAbs (addr : Word) (s : State) : Result :=
  runSeq 0xAF (memOperand (.abs addr) s) handleLax

/-- $B3 LAX (zp),Y (R297). -/
def execLaxIndy (zp : Byte) (s : State) : Result :=
  runSeq 0xB3 (memOperand (.indy zp) s) handleLax

/-- $B7 LAX zp,Y (R297). -/
def execLaxZpy (zp : Byte) (s : State) : Result :=
  runSeq 0xB7 (memOperand (.zpy zp) s) handleLax

/-- $BF LAX abs,Y (R297). -/
def execLaxAbsy (addr : Word) (s : State) : Result :=
  runSeq 0xBF (memOperand (.absy addr) s) handleLax

/-- $C2 NOP # (R300). -/
def execNopImmC2 (v : Byte) (s : State) : Result :=
  runSeq 0xC2 (immOperand v s) handleNop

/-- $C3 DCP (zp,X) (R295). -/
def execDcpIndx (zp : Byte) (s : State) : Result :=
  runSeq 0xC3 (memPlace (.indx zp) s) handleDcp

/-- $C7 DCP zp (R295). -/
def execDcpZp (zp : Byte) (s : State) : Result :=
  runSeq 0xC7 (memPlace (.zp zp) s) handleDcp

/-- $CF DCP abs (R295). -/
def execDcpAbs (addr : Word) (s : State) : Result :=
  runSeq 0xCF (memPlace (.abs addr) s) handleDcp

/-- $D3 DCP (zp),Y (R295). -/
def execDcpIndy (zp : Byte) (s : State) : Result :=
  runSeq 0xD3 (memPlace (.indy zp) s) handleDcp

/-- $D4 NOP zp,X (R300). -/
def execNopZpxD4 (zp : Byte) (s : State) : Result :=
  runSeq 0xD4 (memPlace (.zpx zp) s) handleNop

/-- $D7 DCP zp,X (R295). -/
def execDcpZpx (zp : Byte) (s : State) : Result :=
  runSeq 0xD7 (memPlace (.zpx zp) s) handleDcp

/-- $DA NOP (R300). -/
def execNopImpDA (s : State) : Result :=
  runSeq 0xDA (noOperand s) handleNop

/-- $DB DCP abs,Y (R295). -/
def execDcpAbsy (addr : Word) (s : State) : Result :=
  runSeq 0xDB (memPlace (.absy addr) s) handleDcp

/-- $DC NOP abs,X (R300). -/
def execNopAbsxDC (addr : Word) (s : State) : Result :=
  runSeq 0xDC (memPlace (.absx addr) s) handleNop

/-- $DF DCP abs,X (R295). -/
def execDcpAbsx (addr : Word) (s : State) : Result :=
  runSeq 0xDF (memPlace (.absx addr) s) handleDcp

/-- $E2 NOP # (R300). -/
def execNopImmE2 (v : Byte) (s : State) : Result :=
  runSeq 0xE2 (immOperand v s) handleNop

/-- $E3 ISC (zp,X) (R296). -/
def execIscIndx (zp : Byte) (s : State) : Result :=
  runSeq 0xE3 (memPlace (.indx zp) s) handleIsc

/-- $E7 ISC zp (R296). -/
def execIscZp (zp : Byte) (s : State) : Result :=
  runSeq 0xE7 (memPlace (.zp zp) s) handleIsc

/-- $EB SBC # (R299). -/
def execSbcImmEB (v : Byte) (s : State) : Result :=
  runSeq 0xEB (immOperand v s) handleSbc

/-- $EF ISC abs (R296). -/
def execIscAbs (addr : Word) (s : State) : Result :=
  runSeq 0xEF (memPlace (.abs addr) s) handleIsc

/-- $F3 ISC (zp),Y (R296). -/
def execIscIndy (zp : Byte) (s : State) : Result :=
  runSeq 0xF3 (memPlace (.indy zp) s) handleIsc

/-- $F4 NOP zp,X (R300). -/
def execNopZpxF4 (zp : Byte) (s : State) : Result :=
  runSeq 0xF4 (memPlace (.zpx zp) s) handleNop

/-- $F7 ISC zp,X (R296). -/
def execIscZpx (zp : Byte) (s : State) : Result :=
  runSeq 0xF7 (memPlace (.zpx zp) s) handleIsc

/-- $FA NOP (R300). -/
def execNopImpFA (s : State) : Result :=
  runSeq 0xFA (noOperand s) handleNop

/-- $FB ISC abs,Y (R296). -/
def execIscAbsy (addr : Word) (s : State) : Result :=
  runSeq 0xFB (memPlace (.absy addr) s) handleIsc

/-- $FC NOP abs,X (R300). -/
def execNopAbsxFC (addr : Word) (s : State) : Result :=
  runSeq 0xFC (memPlace (.absx addr) s) handleNop

/-- $FF ISC abs,X (R296). -/
def execIscAbsx (addr : Word) (s : State) : Result :=
  runSeq 0xFF (memPlace (.absx addr) s) handleIsc

end Sys2Proof.Machine
end

