-- ==== Sys2Proof/Machine/Dispatch.lean ====
section
/-! DEFINITION. The dispatch: one arm per constructor of Instr, in the order of spec/opcode_table.json. -/

namespace Sys2Proof.Machine

def exec (i : Instr) (s : State) : Host.Outcome State Fault Refusal :=
  match i with
  | .brk => Sys2Proof.Machine.execBrk s
  | .oraIndx zp => Sys2Proof.Machine.execOraIndx zp s
  | .illegal02 => Sys2Proof.Machine.execIllegal02 s
  | .sloIndx zp => Sys2Proof.Machine.execSloIndx zp s
  | .nopZp04 zp => Sys2Proof.Machine.execNopZp04 zp s
  | .oraZp zp => Sys2Proof.Machine.execOraZp zp s
  | .aslZp zp => Sys2Proof.Machine.execAslZp zp s
  | .sloZp zp => Sys2Proof.Machine.execSloZp zp s
  | .php => Sys2Proof.Machine.execPhp s
  | .oraImm v => Sys2Proof.Machine.execOraImm v s
  | .aslAcc => Sys2Proof.Machine.execAslAcc s
  | .illegal0B => Sys2Proof.Machine.execIllegal0B s
  | .nopAbs0C addr => Sys2Proof.Machine.execNopAbs0C addr s
  | .oraAbs addr => Sys2Proof.Machine.execOraAbs addr s
  | .aslAbs addr => Sys2Proof.Machine.execAslAbs addr s
  | .sloAbs addr => Sys2Proof.Machine.execSloAbs addr s
  | .bpl off => Sys2Proof.Machine.execBpl off s
  | .oraIndy zp => Sys2Proof.Machine.execOraIndy zp s
  | .illegal12 => Sys2Proof.Machine.execIllegal12 s
  | .sloIndy zp => Sys2Proof.Machine.execSloIndy zp s
  | .nopZpx14 zp => Sys2Proof.Machine.execNopZpx14 zp s
  | .oraZpx zp => Sys2Proof.Machine.execOraZpx zp s
  | .aslZpx zp => Sys2Proof.Machine.execAslZpx zp s
  | .sloZpx zp => Sys2Proof.Machine.execSloZpx zp s
  | .clc => Sys2Proof.Machine.execClc s
  | .oraAbsy addr => Sys2Proof.Machine.execOraAbsy addr s
  | .nopImp1A => Sys2Proof.Machine.execNopImp1A s
  | .sloAbsy addr => Sys2Proof.Machine.execSloAbsy addr s
  | .nopAbsx1C addr => Sys2Proof.Machine.execNopAbsx1C addr s
  | .oraAbsx addr => Sys2Proof.Machine.execOraAbsx addr s
  | .aslAbsx addr => Sys2Proof.Machine.execAslAbsx addr s
  | .sloAbsx addr => Sys2Proof.Machine.execSloAbsx addr s
  | .jsr addr => Sys2Proof.Machine.execJsr addr s
  | .andIndx zp => Sys2Proof.Machine.execAndIndx zp s
  | .illegal22 => Sys2Proof.Machine.execIllegal22 s
  | .rlaIndx zp => Sys2Proof.Machine.execRlaIndx zp s
  | .bitZp zp => Sys2Proof.Machine.execBitZp zp s
  | .andZp zp => Sys2Proof.Machine.execAndZp zp s
  | .rolZp zp => Sys2Proof.Machine.execRolZp zp s
  | .rlaZp zp => Sys2Proof.Machine.execRlaZp zp s
  | .plp => Sys2Proof.Machine.execPlp s
  | .andImm v => Sys2Proof.Machine.execAndImm v s
  | .rolAcc => Sys2Proof.Machine.execRolAcc s
  | .illegal2B => Sys2Proof.Machine.execIllegal2B s
  | .bitAbs addr => Sys2Proof.Machine.execBitAbs addr s
  | .andAbs addr => Sys2Proof.Machine.execAndAbs addr s
  | .rolAbs addr => Sys2Proof.Machine.execRolAbs addr s
  | .rlaAbs addr => Sys2Proof.Machine.execRlaAbs addr s
  | .bmi off => Sys2Proof.Machine.execBmi off s
  | .andIndy zp => Sys2Proof.Machine.execAndIndy zp s
  | .illegal32 => Sys2Proof.Machine.execIllegal32 s
  | .rlaIndy zp => Sys2Proof.Machine.execRlaIndy zp s
  | .nopZpx34 zp => Sys2Proof.Machine.execNopZpx34 zp s
  | .andZpx zp => Sys2Proof.Machine.execAndZpx zp s
  | .rolZpx zp => Sys2Proof.Machine.execRolZpx zp s
  | .rlaZpx zp => Sys2Proof.Machine.execRlaZpx zp s
  | .sec => Sys2Proof.Machine.execSec s
  | .andAbsy addr => Sys2Proof.Machine.execAndAbsy addr s
  | .nopImp3A => Sys2Proof.Machine.execNopImp3A s
  | .rlaAbsy addr => Sys2Proof.Machine.execRlaAbsy addr s
  | .nopAbsx3C addr => Sys2Proof.Machine.execNopAbsx3C addr s
  | .andAbsx addr => Sys2Proof.Machine.execAndAbsx addr s
  | .rolAbsx addr => Sys2Proof.Machine.execRolAbsx addr s
  | .rlaAbsx addr => Sys2Proof.Machine.execRlaAbsx addr s
  | .rti => Sys2Proof.Machine.execRti s
  | .eorIndx zp => Sys2Proof.Machine.execEorIndx zp s
  | .illegal42 => Sys2Proof.Machine.execIllegal42 s
  | .sreIndx zp => Sys2Proof.Machine.execSreIndx zp s
  | .nopZp44 zp => Sys2Proof.Machine.execNopZp44 zp s
  | .eorZp zp => Sys2Proof.Machine.execEorZp zp s
  | .lsrZp zp => Sys2Proof.Machine.execLsrZp zp s
  | .sreZp zp => Sys2Proof.Machine.execSreZp zp s
  | .pha => Sys2Proof.Machine.execPha s
  | .eorImm v => Sys2Proof.Machine.execEorImm v s
  | .lsrAcc => Sys2Proof.Machine.execLsrAcc s
  | .illegal4B => Sys2Proof.Machine.execIllegal4B s
  | .jmpAbs addr => Sys2Proof.Machine.execJmpAbs addr s
  | .eorAbs addr => Sys2Proof.Machine.execEorAbs addr s
  | .lsrAbs addr => Sys2Proof.Machine.execLsrAbs addr s
  | .sreAbs addr => Sys2Proof.Machine.execSreAbs addr s
  | .bvc off => Sys2Proof.Machine.execBvc off s
  | .eorIndy zp => Sys2Proof.Machine.execEorIndy zp s
  | .illegal52 => Sys2Proof.Machine.execIllegal52 s
  | .sreIndy zp => Sys2Proof.Machine.execSreIndy zp s
  | .nopZpx54 zp => Sys2Proof.Machine.execNopZpx54 zp s
  | .eorZpx zp => Sys2Proof.Machine.execEorZpx zp s
  | .lsrZpx zp => Sys2Proof.Machine.execLsrZpx zp s
  | .sreZpx zp => Sys2Proof.Machine.execSreZpx zp s
  | .cli => Sys2Proof.Machine.execCli s
  | .eorAbsy addr => Sys2Proof.Machine.execEorAbsy addr s
  | .nopImp5A => Sys2Proof.Machine.execNopImp5A s
  | .sreAbsy addr => Sys2Proof.Machine.execSreAbsy addr s
  | .nopAbsx5C addr => Sys2Proof.Machine.execNopAbsx5C addr s
  | .eorAbsx addr => Sys2Proof.Machine.execEorAbsx addr s
  | .lsrAbsx addr => Sys2Proof.Machine.execLsrAbsx addr s
  | .sreAbsx addr => Sys2Proof.Machine.execSreAbsx addr s
  | .rts => Sys2Proof.Machine.execRts s
  | .adcIndx zp => Sys2Proof.Machine.execAdcIndx zp s
  | .illegal62 => Sys2Proof.Machine.execIllegal62 s
  | .rraIndx zp => Sys2Proof.Machine.execRraIndx zp s
  | .nopZp64 zp => Sys2Proof.Machine.execNopZp64 zp s
  | .adcZp zp => Sys2Proof.Machine.execAdcZp zp s
  | .rorZp zp => Sys2Proof.Machine.execRorZp zp s
  | .rraZp zp => Sys2Proof.Machine.execRraZp zp s
  | .pla => Sys2Proof.Machine.execPla s
  | .adcImm v => Sys2Proof.Machine.execAdcImm v s
  | .rorAcc => Sys2Proof.Machine.execRorAcc s
  | .illegal6B => Sys2Proof.Machine.execIllegal6B s
  | .jmpInd addr => Sys2Proof.Machine.execJmpInd addr s
  | .adcAbs addr => Sys2Proof.Machine.execAdcAbs addr s
  | .rorAbs addr => Sys2Proof.Machine.execRorAbs addr s
  | .rraAbs addr => Sys2Proof.Machine.execRraAbs addr s
  | .bvs off => Sys2Proof.Machine.execBvs off s
  | .adcIndy zp => Sys2Proof.Machine.execAdcIndy zp s
  | .illegal72 => Sys2Proof.Machine.execIllegal72 s
  | .rraIndy zp => Sys2Proof.Machine.execRraIndy zp s
  | .nopZpx74 zp => Sys2Proof.Machine.execNopZpx74 zp s
  | .adcZpx zp => Sys2Proof.Machine.execAdcZpx zp s
  | .rorZpx zp => Sys2Proof.Machine.execRorZpx zp s
  | .rraZpx zp => Sys2Proof.Machine.execRraZpx zp s
  | .sei => Sys2Proof.Machine.execSei s
  | .adcAbsy addr => Sys2Proof.Machine.execAdcAbsy addr s
  | .nopImp7A => Sys2Proof.Machine.execNopImp7A s
  | .rraAbsy addr => Sys2Proof.Machine.execRraAbsy addr s
  | .nopAbsx7C addr => Sys2Proof.Machine.execNopAbsx7C addr s
  | .adcAbsx addr => Sys2Proof.Machine.execAdcAbsx addr s
  | .rorAbsx addr => Sys2Proof.Machine.execRorAbsx addr s
  | .rraAbsx addr => Sys2Proof.Machine.execRraAbsx addr s
  | .nopImm80 v => Sys2Proof.Machine.execNopImm80 v s
  | .staIndx zp => Sys2Proof.Machine.execStaIndx zp s
  | .nopImm82 v => Sys2Proof.Machine.execNopImm82 v s
  | .saxIndx zp => Sys2Proof.Machine.execSaxIndx zp s
  | .styZp zp => Sys2Proof.Machine.execStyZp zp s
  | .staZp zp => Sys2Proof.Machine.execStaZp zp s
  | .stxZp zp => Sys2Proof.Machine.execStxZp zp s
  | .saxZp zp => Sys2Proof.Machine.execSaxZp zp s
  | .dey => Sys2Proof.Machine.execDey s
  | .nopImm89 v => Sys2Proof.Machine.execNopImm89 v s
  | .txa => Sys2Proof.Machine.execTxa s
  | .illegal8B => Sys2Proof.Machine.execIllegal8B s
  | .styAbs addr => Sys2Proof.Machine.execStyAbs addr s
  | .staAbs addr => Sys2Proof.Machine.execStaAbs addr s
  | .stxAbs addr => Sys2Proof.Machine.execStxAbs addr s
  | .saxAbs addr => Sys2Proof.Machine.execSaxAbs addr s
  | .bcc off => Sys2Proof.Machine.execBcc off s
  | .staIndy zp => Sys2Proof.Machine.execStaIndy zp s
  | .illegal92 => Sys2Proof.Machine.execIllegal92 s
  | .illegal93 => Sys2Proof.Machine.execIllegal93 s
  | .styZpx zp => Sys2Proof.Machine.execStyZpx zp s
  | .staZpx zp => Sys2Proof.Machine.execStaZpx zp s
  | .stxZpy zp => Sys2Proof.Machine.execStxZpy zp s
  | .saxZpy zp => Sys2Proof.Machine.execSaxZpy zp s
  | .tya => Sys2Proof.Machine.execTya s
  | .staAbsy addr => Sys2Proof.Machine.execStaAbsy addr s
  | .txs => Sys2Proof.Machine.execTxs s
  | .illegal9B => Sys2Proof.Machine.execIllegal9B s
  | .illegal9C => Sys2Proof.Machine.execIllegal9C s
  | .staAbsx addr => Sys2Proof.Machine.execStaAbsx addr s
  | .illegal9E => Sys2Proof.Machine.execIllegal9E s
  | .illegal9F => Sys2Proof.Machine.execIllegal9F s
  | .ldyImm v => Sys2Proof.Machine.execLdyImm v s
  | .ldaIndx zp => Sys2Proof.Machine.execLdaIndx zp s
  | .ldxImm v => Sys2Proof.Machine.execLdxImm v s
  | .laxIndx zp => Sys2Proof.Machine.execLaxIndx zp s
  | .ldyZp zp => Sys2Proof.Machine.execLdyZp zp s
  | .ldaZp zp => Sys2Proof.Machine.execLdaZp zp s
  | .ldxZp zp => Sys2Proof.Machine.execLdxZp zp s
  | .laxZp zp => Sys2Proof.Machine.execLaxZp zp s
  | .tay => Sys2Proof.Machine.execTay s
  | .ldaImm v => Sys2Proof.Machine.execLdaImm v s
  | .tax => Sys2Proof.Machine.execTax s
  | .illegalAB => Sys2Proof.Machine.execIllegalAB s
  | .ldyAbs addr => Sys2Proof.Machine.execLdyAbs addr s
  | .ldaAbs addr => Sys2Proof.Machine.execLdaAbs addr s
  | .ldxAbs addr => Sys2Proof.Machine.execLdxAbs addr s
  | .laxAbs addr => Sys2Proof.Machine.execLaxAbs addr s
  | .bcs off => Sys2Proof.Machine.execBcs off s
  | .ldaIndy zp => Sys2Proof.Machine.execLdaIndy zp s
  | .illegalB2 => Sys2Proof.Machine.execIllegalB2 s
  | .laxIndy zp => Sys2Proof.Machine.execLaxIndy zp s
  | .ldyZpx zp => Sys2Proof.Machine.execLdyZpx zp s
  | .ldaZpx zp => Sys2Proof.Machine.execLdaZpx zp s
  | .ldxZpy zp => Sys2Proof.Machine.execLdxZpy zp s
  | .laxZpy zp => Sys2Proof.Machine.execLaxZpy zp s
  | .clv => Sys2Proof.Machine.execClv s
  | .ldaAbsy addr => Sys2Proof.Machine.execLdaAbsy addr s
  | .tsx => Sys2Proof.Machine.execTsx s
  | .illegalBB => Sys2Proof.Machine.execIllegalBB s
  | .ldyAbsx addr => Sys2Proof.Machine.execLdyAbsx addr s
  | .ldaAbsx addr => Sys2Proof.Machine.execLdaAbsx addr s
  | .ldxAbsy addr => Sys2Proof.Machine.execLdxAbsy addr s
  | .laxAbsy addr => Sys2Proof.Machine.execLaxAbsy addr s
  | .cpyImm v => Sys2Proof.Machine.execCpyImm v s
  | .cmpIndx zp => Sys2Proof.Machine.execCmpIndx zp s
  | .nopImmC2 v => Sys2Proof.Machine.execNopImmC2 v s
  | .dcpIndx zp => Sys2Proof.Machine.execDcpIndx zp s
  | .cpyZp zp => Sys2Proof.Machine.execCpyZp zp s
  | .cmpZp zp => Sys2Proof.Machine.execCmpZp zp s
  | .decZp zp => Sys2Proof.Machine.execDecZp zp s
  | .dcpZp zp => Sys2Proof.Machine.execDcpZp zp s
  | .iny => Sys2Proof.Machine.execIny s
  | .cmpImm v => Sys2Proof.Machine.execCmpImm v s
  | .dex => Sys2Proof.Machine.execDex s
  | .illegalCB => Sys2Proof.Machine.execIllegalCB s
  | .cpyAbs addr => Sys2Proof.Machine.execCpyAbs addr s
  | .cmpAbs addr => Sys2Proof.Machine.execCmpAbs addr s
  | .decAbs addr => Sys2Proof.Machine.execDecAbs addr s
  | .dcpAbs addr => Sys2Proof.Machine.execDcpAbs addr s
  | .bne off => Sys2Proof.Machine.execBne off s
  | .cmpIndy zp => Sys2Proof.Machine.execCmpIndy zp s
  | .illegalD2 => Sys2Proof.Machine.execIllegalD2 s
  | .dcpIndy zp => Sys2Proof.Machine.execDcpIndy zp s
  | .nopZpxD4 zp => Sys2Proof.Machine.execNopZpxD4 zp s
  | .cmpZpx zp => Sys2Proof.Machine.execCmpZpx zp s
  | .decZpx zp => Sys2Proof.Machine.execDecZpx zp s
  | .dcpZpx zp => Sys2Proof.Machine.execDcpZpx zp s
  | .cld => Sys2Proof.Machine.execCld s
  | .cmpAbsy addr => Sys2Proof.Machine.execCmpAbsy addr s
  | .nopImpDA => Sys2Proof.Machine.execNopImpDA s
  | .dcpAbsy addr => Sys2Proof.Machine.execDcpAbsy addr s
  | .nopAbsxDC addr => Sys2Proof.Machine.execNopAbsxDC addr s
  | .cmpAbsx addr => Sys2Proof.Machine.execCmpAbsx addr s
  | .decAbsx addr => Sys2Proof.Machine.execDecAbsx addr s
  | .dcpAbsx addr => Sys2Proof.Machine.execDcpAbsx addr s
  | .cpxImm v => Sys2Proof.Machine.execCpxImm v s
  | .sbcIndx zp => Sys2Proof.Machine.execSbcIndx zp s
  | .nopImmE2 v => Sys2Proof.Machine.execNopImmE2 v s
  | .iscIndx zp => Sys2Proof.Machine.execIscIndx zp s
  | .cpxZp zp => Sys2Proof.Machine.execCpxZp zp s
  | .sbcZp zp => Sys2Proof.Machine.execSbcZp zp s
  | .incZp zp => Sys2Proof.Machine.execIncZp zp s
  | .iscZp zp => Sys2Proof.Machine.execIscZp zp s
  | .inx => Sys2Proof.Machine.execInx s
  | .sbcImm v => Sys2Proof.Machine.execSbcImm v s
  | .nop => Sys2Proof.Machine.execNop s
  | .sbcImmEB v => Sys2Proof.Machine.execSbcImmEB v s
  | .cpxAbs addr => Sys2Proof.Machine.execCpxAbs addr s
  | .sbcAbs addr => Sys2Proof.Machine.execSbcAbs addr s
  | .incAbs addr => Sys2Proof.Machine.execIncAbs addr s
  | .iscAbs addr => Sys2Proof.Machine.execIscAbs addr s
  | .beq off => Sys2Proof.Machine.execBeq off s
  | .sbcIndy zp => Sys2Proof.Machine.execSbcIndy zp s
  | .illegalF2 => Sys2Proof.Machine.execIllegalF2 s
  | .iscIndy zp => Sys2Proof.Machine.execIscIndy zp s
  | .nopZpxF4 zp => Sys2Proof.Machine.execNopZpxF4 zp s
  | .sbcZpx zp => Sys2Proof.Machine.execSbcZpx zp s
  | .incZpx zp => Sys2Proof.Machine.execIncZpx zp s
  | .iscZpx zp => Sys2Proof.Machine.execIscZpx zp s
  | .sed => Sys2Proof.Machine.execSed s
  | .sbcAbsy addr => Sys2Proof.Machine.execSbcAbsy addr s
  | .nopImpFA => Sys2Proof.Machine.execNopImpFA s
  | .iscAbsy addr => Sys2Proof.Machine.execIscAbsy addr s
  | .nopAbsxFC addr => Sys2Proof.Machine.execNopAbsxFC addr s
  | .sbcAbsx addr => Sys2Proof.Machine.execSbcAbsx addr s
  | .incAbsx addr => Sys2Proof.Machine.execIncAbsx addr s
  | .iscAbsx addr => Sys2Proof.Machine.execIscAbsx addr s

end Sys2Proof.Machine
end

