-- ==== Sys2Proof/Machine/Interrupts.lean ====
section
/-! DEFINITION. The interrupt controller's check point (spec/60_exceptions.md R323 to R328). -/

namespace Sys2Proof.Machine

/-- NMI service (R326). -/
def serviceNmi (s : State) : State :=
  let s := (s.setNmiPending false).setNmiRunning true
  vector s.nmiAddress s

/-- IRQ service (R327). -/
def serviceIrq (s : State) : State :=
  let s := (s.setIrqPending false).setIrqRunning true
  vector s.irqAddress s

/-- `ServiceInterrupt()` (R323): NMI first, then IRQ when I is 0 (R325). The state after vectoring, or none where no
interrupt is serviced. -/
def serviceInterrupt (s : State) : Option State :=
  if s.nmiPending then some (serviceNmi s)
  else if s.irqPending && !s.p.i then some (serviceIrq s)
  else none

end Sys2Proof.Machine
end

