-- ==== Sys2Proof/Machine/StepLoop.lean ====
section
/-! DEFINITION. The Step Loop (spec/30_encoding.md R117, spec/60_exceptions.md R323, R334, R338): the fault record, the
check point, the fetch through the Memory Port in the order of spec/20_memory.md R78, and the instruction. -/

namespace Sys2Proof.Machine

/-- The fetch of one instruction (R78 items 1 and 2, R115): the opcode byte at PC, then the operand bytes it calls for.
BRK's second byte is not read (R90), and after an unmapped byte nothing more is (R115). -/
def fetch (s : State) : Instr × State :=
  let (op, s) := memRead s.pc s
  match decodeOpcode op with
  | .bare i => (i, s)
  | .byte f =>
    let (b1, s) := memRead (s.pc + 1) s
    (f b1, s)
  | .word f =>
    let (b1, s) := memRead (s.pc + 1) s
    let (b2, s) := memRead (s.pc + 2) s
    (f (wordOf b2 b1), s)

/-- Decode and run the instruction at PC. -/
def runInstruction (s : State) : Result :=
  let (i, s) := fetch s
  exec i s

/-- The start of a Step: its port calls are yet to be made (log entry 4). -/
def State.beginStep (s : State) : State := s.setPortCalls []

/-- `Step()` (R117) where no fault is recorded. A Step that services an interrupt ends there, or goes on to the
instruction at the vector when `FUSED_INTERRUPT_STEP` is true (R338). -/
def stepRunning (s : State) : Result :=
  let s := s.beginStep
  match serviceInterrupt s with
  | some t => if t.params.fusedInterruptStep then runInstruction t else .next t
  | none => runInstruction s

/-- `Step()`: once Fault is set, no Step is taken (R47, R334). -/
def stepLoop (s : State) : Result :=
  match s.fault with
  | some e => .fault (.fatalError e)
  | none => stepRunning s

/-- Store a list of bytes at consecutive addresses, wrapping at $FFFF (R90), as a host that loads memory does. -/
def placeBytes : List Byte → Word → Memory → Memory
  | [], _, m => m
  | b :: bs, a, m => placeBytes bs (a + 1) (m.store a.toNat b)

/-- The state in which the next Step runs the instruction of a word: its bytes stored at PC, no fault recorded, memory
answering as RAM, and no interrupt that the check point would service first (log entry 8). -/
def placeInstruction (s : State) (nbits w : Nat) : State :=
  { s with
    mem := placeBytes (tableBytes nbits w) s.pc s.mem
    params := { s.params with memory := .plainRam }
    fault := none
    nmiPending := false
    irqPending := s.irqPending && s.p.i }

end Sys2Proof.Machine
end

