-- ==== Sys2Proof/Machine/Step.lean ====
section
/-! DEFINITION. One step of the machine, and the placing of one instruction where the step fetches it. -/

namespace Sys2Proof.Machine

/-- One call of `Step()` (spec/30_encoding.md R117). -/
def step (s : State) : Host.Outcome State Fault Refusal := stepLoop s

/-- `s` with the instruction of the low `nbits` bits of `w` stored where `step` fetches next (log entry 8). -/
def State.withFetchWord (s : State) (nbits w : Nat) : State := placeInstruction s nbits w

end Sys2Proof.Machine
end

