-- ==== Sys2Proof/Machine/HostApi.lean ====
section
/-! DEFINITION. The host interface (spec/60_exceptions.md R348): every call the host can make, reset and construction
(spec/70_reset_and_hazards.md R370 to R374), the snapshot (spec/10_state.md R48), and the interleaving of Steps with
host actions (R344). -/

namespace Sys2Proof.Machine

/-- `TriggerNmi()` (R321). -/
def triggerNmi (s : State) : State := s.setNmiPending true

/-- `TriggerIrq()` (R322). -/
def triggerIrq (s : State) : State := s.setIrqPending true

/-- `StallCycles(n)` (R341), modulo 2^64. -/
def addStall (n : Count) (s : State) : State := s.setStallCycles (s.stallCycles + n)

/-- `ConsumeStall(k)` (R341); the host makes the call only with `k <= StallCycles`, and otherwise there is no call. -/
def consumeStall (k : Count) (s : State) : Option State :=
  if k ≤ s.stallCycles then some (s.setStallCycles (s.stallCycles - k)) else none

/-- The register part of `Reset()` (R370): everything before the vector reads. -/
def resetRegisters (s : State) : State :=
  { s with
    a := 0x00
    x := 0x00
    y := 0x00
    sp := 0xFD
    p := unpack 0x24
    nmiPending := false
    irqPending := false
    nmiRunning := false
    irqRunning := false
    stallCycles := 0
    cycles := s.params.resetCycles
    fault := none
    portCalls := [] }

/-- `Reset()` (R370): the registers, then the six vector reads in increasing address order. Memory and the parameters
are untouched (R374). -/
def hostReset (s : State) : State :=
  let s := resetRegisters s
  let (nmi, s) := readWord Config.nmiVectorLocation s
  let s := s.setNmiAddress nmi
  let (start, s) := readWord Config.resetVectorLocation s
  let s := s.setPc start
  let (irq, s) := readWord Config.irqVectorLocation s
  s.setIrqAddress irq

/-- `construct(memory)` (R373) with the machine's parameters: exactly the steps of R370 over the host's memory. -/
def construct (params : Params) (mem : Memory) : State :=
  hostReset { State.reset with params := params, mem := mem }

/-- A change the host makes to the memory behind the port, between Steps (R344, R348). -/
def memoryChange (a : Word) (v : Byte) (s : State) : State := s.setMem (s.mem.store a.toNat v)

/-- The snapshot (R48): a copy of all registers, the eight flags, the counters, the latches, the markers and the cached
vectors. -/
structure Snapshot where
  a : Byte
  x : Byte
  y : Byte
  pc : Word
  sp : Byte
  p : Flags
  cycles : Count
  nmiPending : Bool
  irqPending : Bool
  nmiRunning : Bool
  irqRunning : Bool
  stallCycles : Count
  nmiAddress : Word
  irqAddress : Word
deriving DecidableEq, Repr

/-- `Snapshot()` (R48, R342): it changes no state. -/
def snapshot (s : State) : Snapshot where
  a := s.a
  x := s.x
  y := s.y
  pc := s.pc
  sp := s.sp
  p := s.p
  cycles := s.cycles
  nmiPending := s.nmiPending
  irqPending := s.irqPending
  nmiRunning := s.nmiRunning
  irqRunning := s.irqRunning
  stallCycles := s.stallCycles
  nmiAddress := s.nmiAddress
  irqAddress := s.irqAddress

/-- What a call of `Step()` returns (R348): `Ok`, or `Err` with the fatal error the Step recorded (R333). -/
def stepReturn (after : State) : Except FatalError Unit :=
  match after.fault with
  | none => .ok ()
  | some e => .error e

/-- The host's actions other than `Step()` (R344, R348). -/
inductive HostAction where
  | triggerNmi
  | triggerIrq
  | reset
  | stallCycles (n : Count)
  | consumeStall (k : Count)
  | snapshot
  | memoryChange (a : Word) (v : Byte)
deriving DecidableEq, Repr

/-- The state after a host action; none where the host may not make the call. -/
def act (h : HostAction) (s : State) : Option State :=
  match h with
  | .triggerNmi => some (triggerNmi s)
  | .triggerIrq => some (triggerIrq s)
  | .reset => some (hostReset s)
  | .stallCycles n => some (addStall n s)
  | .consumeStall k => consumeStall k s
  | .snapshot => some s
  | .memoryChange a v => some (memoryChange a v s)

/-- An event of a run (R344, R382): a Step or a host action, each atomic (D16). -/
inductive Event where
  | step
  | host (h : HostAction)
deriving DecidableEq, Repr

/-- The state after an event; none where the event cannot happen, such as a Step once Fault is set (R334). -/
def happen (e : Event) (s : State) : Option State :=
  match e with
  | .host h => act h s
  | .step =>
    match step s with
    | .next t => some t
    | .fault _ => none
    | .refused _ => none

/-- The state after a list of events, in order. -/
def happenAll : List Event → State → Option State
  | [], s => some s
  | e :: es, s =>
    match happen e s with
    | some t => happenAll es t
    | none => none

end Sys2Proof.Machine
end

