-- ==== Sys2Proof/Machine/Runs.lean ====
section
/-! DEFINITION. The end of a run (spec/70_reset_and_hazards.md R382): where a run begins, the JMP to itself, the normal
end and the fault end, the first completed Step that meets one, and what it means that a program ends. -/

namespace Sys2Proof.Machine

/-! ### The conditions on a state -/

/-- Whether the next check point would service an interrupt (R323, R382). -/
def serviceable (s : State) : Bool := s.nmiPending || (s.irqPending && !s.p.i)

/-- The target of a JMP of this form at the state its fetch left (R101, R104); none for a form that JMP has not. The
pointer of `6C lo hi` is read through the port, as the resolver reads it. -/
def jmpTarget (f : Form) (s : State) : Option Word :=
  match f with
  | .mem m =>
    match m with
    | .abs addr => some (absTarget addr s).operand
    | .zp _ | .zpx _ | .zpy _ | .absx _ | .absy _ | .indx _ | .indy _ => none
  | .ind addr => some (indTarget addr s).operand
  | .imp | .acc | .imm _ | .rel _ => none

/-- Whether the instruction at PC is a JMP whose target is PC (R382). The instruction and its pointer are those the port
answers to the fetch and the resolver of the next Step: the bytes of the array under PlainRAM, the next free values
under the host oracle (log entry 21). It is a test of the state: no port call is made. -/
def selfJump (s : State) : Bool :=
  let (i, u) := fetch s
  i.mnemonic == some .jmp && jmpTarget i.form u == some s.pc

/-- The three conditions of a normal end on the final state of a Step (R382): no fault, PC at a JMP to itself, nothing
serviceable pending. -/
def normalEnd (s : State) : Bool := s.fault.isNone && selfJump s && !serviceable s

/-- The condition of the fault end on the final state of a Step (R382, R334). -/
def faultEnd (s : State) : Bool := s.fault.isSome

/-! ### The end of a run -/

/-- How a run ends (R382). A fault end is not a normal end. -/
inductive RunEnd where
  | normal
  | fault
deriving DecidableEq, Repr

/-- Where a run begins: at a construction or a Reset (R382). -/
def RunStart (s : State) : Prop := (∃ params mem, s = construct params mem) ∨ ∃ u, s = hostReset u

/-- The end that the final state of a completed Step meets, if any (R382). -/
def endAt (t : State) : Option RunEnd :=
  if faultEnd t then some .fault
  else if normalEnd t then some .normal
  else none

/-- The end of the run after an event that left `t`: only a completed Step can end a run (R382), so a host action ends
none, whatever state it leaves. -/
def endAfter (e : Event) (t : State) : Option RunEnd :=
  match e with
  | .step => endAt t
  | .host _ => none

/-- An event within a run: none where it cannot happen, and none for a Reset, which begins a new run (R371, R382). -/
def happenInRun (e : Event) (s : State) : Option State :=
  match e with
  | .host .reset => none
  | e => happen e s

/-- How far a list of events takes a run. -/
inductive Progress where
  /-- The run has not ended, and stands at this state. -/
  | going (s : State)
  /-- The run has ended, and its final state is this one. -/
  | ended (e : RunEnd) (s : State)
  /-- The events are those of no run. -/
  | notARun
deriving DecidableEq, Repr

/-- The run of a list of events from a state (R382): it ends after the FIRST completed Step whose final state meets an
end. What the list holds after that is no part of the run, and the rule says nothing of it. -/
def runFrom : List Event → State → Progress
  | [], s => .going s
  | e :: es, s =>
    match happenInRun e s with
    | none => .notARun
    | some t =>
      match endAfter e t with
      | some k => .ended k t
      | none => runFrom es t

/-! ### A program that ends -/

/-- The first `n` events of an endless run. -/
def firstEvents (run : Nat → Event) (n : Nat) : List Event := (List.range n).map run

/-- Whether the host asks for another Step, always. DESIGN CHOICE (log entry 22): a host that stops asking ends no
program. -/
def KeepsStepping (run : Nat → Event) : Prop := ∀ n, ∃ m, n ≤ m ∧ run m = .step

/-- A program ends from its start state (R382), where the host may take the actions of `may`: EVERY run from there
reaches a normal end, whatever the host does and whenever it does it. -/
def ProgramEndsUnder (may : HostAction → Bool) (start : State) : Prop :=
  RunStart start ∧
  ∀ run : Nat → Event, (∀ n h, run n = .host h → may h = true) → KeepsStepping run →
    (∀ n, runFrom (firstEvents run n) start ≠ .notARun) →
    ∃ n t, runFrom (firstEvents run n) start = .ended .normal t

/-- The host actions that leave memory as the program's own stores left it. -/
def keepsMemory (h : HostAction) : Bool :=
  match h with
  | .memoryChange _ _ => false
  | .triggerNmi | .triggerIrq | .reset | .stallCycles _ | .consumeStall _ | .snapshot => true

/-- A program ends, whatever the host's triggers do (R382). DEDUCED (log entry 22): the host changes no memory, since
under PlainRAM a read answers what MemWrite stored (R76), and under the host oracle every read is free already. The
claim over hosts that do change memory is `ProgramEndsUnder fun _ => true`. -/
def ProgramEnds (start : State) : Prop := ProgramEndsUnder keepsMemory start

end Sys2Proof.Machine
end

