-- ==== Sys2Proof/Safety.lean ====
section
/-! DEFINITION. The terms claims are stated in: the invariant of the core, what an instruction reads and where it stores,
what it costs, the views of the interrupt controller (spec/10_state.md R46), and a handler's test of the stacked B
(spec/60_exceptions.md R329). -/

namespace Sys2Proof

/-- The size of an instruction in bytes (R91). An unmapped byte has none; the 1 given is used by nothing. -/
def Instr.size (i : Instr) : Nat :=
  match i.entry with
  | some e => e.size
  | none => 1

/-- The 25 unmapped bytes, as R112 and R333 list them. -/
def unmappedBytes : List Byte :=
  [0x02, 0x12, 0x22, 0x32, 0x42, 0x52, 0x62, 0x72, 0x92, 0xB2, 0xD2, 0xF2,
   0x0B, 0x2B, 0x4B, 0x6B, 0x8B, 0xAB, 0xCB, 0x93, 0x9B, 0x9C, 0x9E, 0x9F, 0xBB]

end Sys2Proof

namespace Sys2Proof.Machine

/-- The byte of the array at an address. -/
def State.byteAt (s : State) (a : Word) : Byte := s.mem.load a.toNat

/-- Whether the resolver of a form reports a page cross (R94). -/
def crossOf (f : Form) (s : State) : Bool :=
  match f with
  | .mem m => (resolveMem m s).cross
  | .imp | .acc | .imm _ | .ind _ | .rel _ => false

/-- The state after the resolver of a form, which reads only pointer bytes (R94). -/
def resolvedState (f : Form) (s : State) : State :=
  match f with
  | .mem m => (resolveMem m s).state
  | .ind addr => (indTarget addr s).state
  | .imp | .acc | .imm _ | .rel _ => s

/-- The operand byte an instruction of this form reads, and the state after the resolver and that read (R94, R108).
None for the forms that OpRead is not defined on. -/
def dataRead (f : Form) (s : State) : Option (Byte × State) :=
  match f with
  | .imm v => some (v, s)
  | .acc => some (s.a, s)
  | .mem m => some (memRead (resolveMem m s).operand (resolveMem m s).state)
  | .imp | .ind _ | .rel _ => none

/-- The effective address of a memory form: where a store of this form goes (R94, R109). -/
def storeAddress (f : Form) (s : State) : Option Word :=
  match f with
  | .mem m => some (resolveMem m s).operand
  | .imp | .acc | .imm _ | .ind _ | .rel _ => none

/-- What the table charges an instruction at a state (R118): its base cycles, and one more on a page cross where the
entry is page-cross sensitive. A taken branch is charged more by its own rule (R230). -/
def cost (i : Instr) (s : State) : Nat :=
  match i.entry with
  | some e => e.cycles + (e.pageCross && crossOf i.form s).toNat
  | none => 0

/-- The end of a sequential instruction `i` that began at `s` and whose handler left `u` (R118, R119): PC moves past the
instruction, and Cycles grows by its cost. -/
def sequentialEnd (i : Instr) (s u : State) : State :=
  { u with
    pc := s.pc + BitVec.ofNat 16 i.size
    cycles := s.cycles + BitVec.ofNat 64 (cost i s) }

/-- Where a transfer to `t` from an instruction of `size` bytes at `s` leaves PC, for every instruction but JMP
(R119, R120). -/
def landing (size : Word) (t : Word) (s : State) : Word :=
  if s.params.pcUpdate = .sourceHeuristic ∧ t = s.pc then s.pc + size else t

/-- The invariant of the core: memory in its canonical form, and the stored B and U as R39 derives them. -/
def CoreInv (s : State) : Prop := s.mem.wf = true ∧ s.p.b = false ∧ s.p.u = true

/-- The states of the interrupt controller (R46); several can hold at once. -/
inductive ControllerView where
  | idle
  | nmiPending
  | nmiRunning
  | irqPending
  | irqRunning
deriving DecidableEq, Repr

/-- Whether a view holds at a state (R46). -/
def ControllerView.holds (v : ControllerView) (s : State) : Bool :=
  match v with
  | .idle => !s.nmiPending && !s.irqPending && !s.nmiRunning && !s.irqRunning
  | .nmiPending => s.nmiPending
  | .nmiRunning => s.nmiRunning
  | .irqPending => s.irqPending
  | .irqRunning => s.irqRunning

/-- A handler's test that tells BRK from IRQ: bit 4 of the byte at $0101+SP, the last pushed byte (R329). DESIGN CHOICE
(log entry 23): at SP = $FF the rule's two descriptions part, since the last push went to $0100 (R72) and $0101+SP is
$0200. The test reads $0101+SP, with no wrap, as the rule writes the address. DESIGN CHOICE (log entry 24): the byte is
what the port would answer if the handler read it next. Under PlainRAM that is the byte of the array, and under the host
oracle it is the next free value, whatever was pushed (R76). It is a test of the state: no port call is made. -/
def stackedB (s : State) : Bool := (s.portByte (0x0101 + zext16 s.sp)).getLsbD 4

end Sys2Proof.Machine
end

