-- ==== Sys2Proof/Certificates/Slice0/Obligations.lean ====
section
/-! DEFINITION. The statements for the provers, each from numbered rules of spec/. A statement about an instruction says
that `exec` ANSWERS a next state, names that state, and so holds what changes and what does not. -/

open Sys2Proof Sys2Proof.Machine

/-- For every instruction, mapped or not, with every value of its operand bytes, and for every list of bytes after it:
decoding its encoding gives exactly that instruction and leaves exactly those bytes. (30_encoding.md R90, R92, R111,
R115.) -/
def Obligations.DecodeOfEncodeIsTheInstruction : Prop :=
  ∀ (i : Instr) (rest : List Byte), decode (encode i ++ rest) = .ok (i, rest)

/-- Whatever bytes decode to an instruction are its encoding followed by the rest; for BRK they are $00 and any
signature byte, which has no effect. (30_encoding.md R90, R92, R111, R272.) -/
def Obligations.EncodeOfDecodeIsTheBytes : Prop :=
  ∀ (bytes rest : List Byte) (i : Instr), decode bytes = .ok (i, rest) →
    (i ≠ .brk → bytes = encode i ++ rest) ∧
    (i = .brk → ∃ signature, bytes = 0x00 :: signature :: rest)

/-- Thirteen words, at least one for each file of instruction rules, decode to the instruction the spec's encoding of it
says. (That an instruction of the unmapped byte $02 takes that one byte is the model's choice: log entry 13.) (R90,
R92, R111, R112, R115, R272.) -/
def Obligations.WordsFromTheSpecDecode : Prop :=
  decode [0xA9, 0x42] = .ok (.ldaImm 0x42, []) ∧
  decode [0x8D, 0x00, 0x02] = .ok (.staAbs 0x0200, []) ∧
  decode [0x96, 0x10] = .ok (.stxZpy 0x10, []) ∧
  decode [0x0A] = .ok (.aslAcc, []) ∧
  decode [0xFE, 0xFF, 0x02] = .ok (.incAbsx 0x02FF, []) ∧
  decode [0x90, 0x10] = .ok (.bcc 0x10, []) ∧
  decode [0x6C, 0xFF, 0x12] = .ok (.jmpInd 0x12FF, []) ∧
  decode [0x20, 0x00, 0x90] = .ok (.jsr 0x9000, []) ∧
  decode [0x00, 0xEA, 0x85] = .ok (.brk, [0x85]) ∧
  decode [0x1B, 0xFF, 0x02] = .ok (.sloAbsy 0x02FF, []) ∧
  decode [0xEB, 0x03] = .ok (.sbcImmEB 0x03, []) ∧
  decode [0x1C, 0xFF, 0x12] = .ok (.nopAbsx1C 0x12FF, []) ∧
  decode [0x02, 0x00] = .ok (.illegal02, [0x00])

/-- For every mapped opcode byte and every bytes after it, an instruction that decodes has that opcode and takes as many
bytes as its entry's addressing mode has, 2 for BRK, whatever the operand bytes are. (R91.) -/
def Obligations.LengthIsAFunctionOfTheOpcode : Prop :=
  ∀ (op : Byte) (tail rest : List Byte) (i : Instr) (e : Entry),
    opcodeTable op = some e → decode (op :: tail) = .ok (i, rest) →
    i.opcode = op ∧ tail.length + 1 = rest.length + (if e.instr = .brk then 2 else e.mode.size)

/-- A byte begins an instruction that has no entry if and only if it is one of the 25 bytes of R112, whatever follows
it. (R112, R115.) -/
def Obligations.UnmappedBytesAreIllegal : Prop :=
  ∀ (op : Byte) (tail : List Byte),
    (∃ i rest, decode (op :: tail) = .ok (i, rest) ∧ i.mnemonic = none) ↔ op ∈ unmappedBytes

/-- Every mapped entry's mode appears in its instruction's mode map with the table index (the unofficial NOPs excepted),
sizes and cycles are in range, and there are 151 official, 80 unofficial and 25 unmapped entries. (R111, R112, R113,
R114.) -/
def Obligations.OpcodeTableIsConsistent : Prop :=
  tableWellFormed opcodeTable = true ∧
  ((List.range 256).filter fun n => (opcodeTable (BitVec.ofNat 8 n)).isNone).length = 25 ∧
  ((List.range 256).filter fun n => ((opcodeTable (BitVec.ofNat 8 n)).map Entry.unofficial).getD false).length = 80 ∧
  ((List.range 256).filter fun n => ((opcodeTable (BitVec.ofNat 8 n)).map fun e => !e.unofficial).getD false).length = 151

/-- With no fault recorded and nothing to service, if the bytes the port answers at PC, PC+1 and PC+2 decode to an
instruction, then it is well formed and the step is exec of it at the same state, with the reads of its opcode and
operand bytes as the port calls so far. BRK's signature byte is not read. (That the answers of the host oracle are
free values, counted by draws, is the model's choice: log entry 3; that the port calls are kept in portCalls: log
entry 4.) (R76, R78, R90, R114, R115, R116, R117.) -/
def Obligations.StepRunsTheDecodedInstruction : Prop :=
  ∀ (s : State) (i : Instr) (rest : List Byte),
    s.fault = none → serviceable s = false →
    let answer : Nat → Byte := fun k =>
      match s.params.memory with
      | .plainRam => s.byteAt (s.pc + BitVec.ofNat 16 k)
      | .hostOracle => Config.portDraw (s.draws + k)
    let n := 1 + i.form.operandBytes.length
    decode [answer 0, answer 1, answer 2] = .ok (i, rest) →
    i.wellFormed = true ∧
    step s = exec i { s with
      portCalls := (List.range n).map fun k => .read (s.pc + BitVec.ofNat 16 k) (answer k)
      draws := if s.params.memory = .hostOracle then s.draws + n else s.draws }

/-- At every state, each opcode of LDA, LDX, LDY and LAX answers the next state in which the named register (for LAX
both A and X) holds the operand byte m, Z and N are those of m, PC is past the instruction, Cycles grew by the
table's cost, and nothing else changed but the port's record of the reads (u). The operand byte is read once. (R151,
R152, R153, R297.) -/
def Obligations.LoadResult : Prop :=
  ∀ (i : Instr) (s u : State) (m : Byte), dataRead i.form s = some (m, u) →
    (i.opcode ∈ ([0xA1, 0xA5, 0xA9, 0xAD, 0xB1, 0xB5, 0xB9, 0xBD] : List Byte) →
      exec i s = .next (sequentialEnd i s { u with a := m, p := { s.p with z := decide (m = 0), n := (m).msb } })) ∧
    (i.opcode ∈ ([0xA2, 0xA6, 0xAE, 0xB6, 0xBE] : List Byte) →
      exec i s = .next (sequentialEnd i s { u with x := m, p := { s.p with z := decide (m = 0), n := (m).msb } })) ∧
    (i.opcode ∈ ([0xA0, 0xA4, 0xAC, 0xB4, 0xBC] : List Byte) →
      exec i s = .next (sequentialEnd i s { u with y := m, p := { s.p with z := decide (m = 0), n := (m).msb } })) ∧
    (i.opcode ∈ ([0xA3, 0xA7, 0xAF, 0xB3, 0xB7, 0xBF] : List Byte) →
      exec i s = .next (sequentialEnd i s { u with a := m, x := m, p := { s.p with z := decide (m = 0), n := (m).msb } }))

/-- At every state, each opcode of STA, STX, STY and SAX answers the state after one MemWrite of A, X, Y or A AND X at
the form's effective address, with PC past the instruction and Cycles grown by the table's cost; no flag and no
register is written and the address is not read. (R154, R155, R156, R298.) -/
def Obligations.StoreResult : Prop :=
  ∀ (i : Instr) (s : State) (ea : Word), storeAddress i.form s = some ea →
    (i.opcode ∈ ([0x81, 0x85, 0x8D, 0x91, 0x95, 0x99, 0x9D] : List Byte) →
      exec i s = .next (sequentialEnd i s (memWrite ea s.a (resolvedState i.form s)))) ∧
    (i.opcode ∈ ([0x86, 0x8E, 0x96] : List Byte) →
      exec i s = .next (sequentialEnd i s (memWrite ea s.x (resolvedState i.form s)))) ∧
    (i.opcode ∈ ([0x84, 0x8C, 0x94] : List Byte) →
      exec i s = .next (sequentialEnd i s (memWrite ea s.y (resolvedState i.form s)))) ∧
    (i.opcode ∈ ([0x83, 0x87, 0x8F, 0x97] : List Byte) →
      exec i s = .next (sequentialEnd i s (memWrite ea (s.a &&& s.x) (resolvedState i.form s))))

/-- TAX, TAY, TXA, TYA and TSX copy the source register and set Z and N from it; TXS copies X to SP and writes no flag.
Nothing else changes but PC and Cycles. (R157, R158, R159, R160, R161, R162.) -/
def Obligations.TransferResult : Prop :=
  ∀ (i : Instr) (s : State),
    (i.opcode = 0xAA → exec i s = .next (sequentialEnd i s { s with x := s.a, p := { s.p with z := decide (s.a = 0), n := (s.a).msb } })) ∧
    (i.opcode = 0xA8 → exec i s = .next (sequentialEnd i s { s with y := s.a, p := { s.p with z := decide (s.a = 0), n := (s.a).msb } })) ∧
    (i.opcode = 0x8A → exec i s = .next (sequentialEnd i s { s with a := s.x, p := { s.p with z := decide (s.x = 0), n := (s.x).msb } })) ∧
    (i.opcode = 0x98 → exec i s = .next (sequentialEnd i s { s with a := s.y, p := { s.p with z := decide (s.y = 0), n := (s.y).msb } })) ∧
    (i.opcode = 0xBA → exec i s = .next (sequentialEnd i s { s with x := s.sp, p := { s.p with z := decide (s.sp = 0), n := (s.sp).msb } })) ∧
    (i.opcode = 0x9A → exec i s = .next (sequentialEnd i s { s with sp := s.x }))

/-- For every opcode of ADC: A becomes the sum of A, the operand and C modulo 256; C is set when the sum passes 255; V
is set when the operands' signs agree and the result's differs; Z and N are the result's. D is not read. (R181.) -/
def Obligations.AdcResult : Prop :=
  ∀ (i : Instr) (s u : State) (m : Byte), dataRead i.form s = some (m, u) →
    i.opcode ∈ ([0x61, 0x65, 0x69, 0x6D, 0x71, 0x75, 0x79, 0x7D] : List Byte) →
    let sum := s.a.toNat + m.toNat + s.p.c.toNat
    let r : Byte := BitVec.ofNat 8 sum
    exec i s = .next (sequentialEnd i s { u with
      a := r
      p := { s.p with
        c := decide (sum > 255)
        v := decide (s.a.msb = m.msb ∧ s.a.msb ≠ r.msb)
        z := decide (r = 0)
        n := r.msb } })

/-- For every opcode of SBC and for the alias $EB: A becomes A minus the operand minus the borrow modulo 256; C is set
when the difference is not negative; V is set when the operands' signs differ and the result's sign is not A's; Z
and N are the result's. (R182, R299.) -/
def Obligations.SbcResult : Prop :=
  ∀ (i : Instr) (s u : State) (m : Byte), dataRead i.form s = some (m, u) →
    i.opcode ∈ ([0xE1, 0xE5, 0xE9, 0xEB, 0xED, 0xF1, 0xF5, 0xF9, 0xFD] : List Byte) →
    let diff : Int := (s.a.toNat : Int) - m.toNat - (1 - s.p.c.toNat)
    let r : Byte := BitVec.ofInt 8 diff
    exec i s = .next (sequentialEnd i s { u with
      a := r
      p := { s.p with
        c := decide (diff ≥ 0)
        v := decide (s.a.msb ≠ m.msb ∧ s.a.msb ≠ r.msb)
        z := decide (r = 0)
        n := r.msb } })

/-- SBC immediate answers exactly what ADC immediate of m XOR $FF answers at the same state, in the result and every
flag, and the alias $EB answers exactly what $E9 does. (R182, R299.) -/
def Obligations.SbcIsAdcOfTheComplement : Prop :=
  ∀ (m : Byte) (s : State),
    exec (.sbcImm m) s = exec (.adcImm (m ^^^ 0xFF)) s ∧
    exec (.sbcImmEB m) s = exec (.sbcImm m) s

/-- For every A, operand and carry: V after ADC (SBC) is set exactly when the two's-complement sum (difference) lies
outside -128 to 127. (R7, R181, R182.) -/
def Obligations.OverflowFlagIsSignedOverflow : Prop :=
  ∀ (m : Byte) (s t : State),
    (exec (.adcImm m) s = .next t →
      (t.p.v = true ↔ (s.a.toInt + m.toInt + s.p.c.toNat < -128 ∨ 127 < s.a.toInt + m.toInt + s.p.c.toNat))) ∧
    (exec (.sbcImm m) s = .next t →
      (t.p.v = true ↔ (s.a.toInt - m.toInt - (1 - s.p.c.toNat) < -128 ∨
        127 < s.a.toInt - m.toInt - (1 - s.p.c.toNat))))

/-- For every opcode of AND, ORA and EOR: A becomes the bitwise combination of A with the operand byte, Z and N are the
result's, and C and V are unchanged. (R183, R184, R185.) -/
def Obligations.LogicResult : Prop :=
  ∀ (i : Instr) (s u : State) (m : Byte), dataRead i.form s = some (m, u) →
    (i.opcode ∈ ([0x21, 0x25, 0x29, 0x2D, 0x31, 0x35, 0x39, 0x3D] : List Byte) →
      exec i s = .next (sequentialEnd i s { u with a := s.a &&& m, p := { s.p with z := decide ((s.a &&& m) = 0), n := (s.a &&& m).msb } })) ∧
    (i.opcode ∈ ([0x01, 0x05, 0x09, 0x0D, 0x11, 0x15, 0x19, 0x1D] : List Byte) →
      exec i s = .next (sequentialEnd i s { u with a := s.a ||| m, p := { s.p with z := decide ((s.a ||| m) = 0), n := (s.a ||| m).msb } })) ∧
    (i.opcode ∈ ([0x41, 0x45, 0x49, 0x4D, 0x51, 0x55, 0x59, 0x5D] : List Byte) →
      exec i s = .next (sequentialEnd i s { u with a := s.a ^^^ m, p := { s.p with z := decide ((s.a ^^^ m) = 0), n := (s.a ^^^ m).msb } }))

/-- For both opcodes of BIT: Z is set when A AND m is zero, N is bit 7 and V is bit 6 of the memory byte, and A and C
are unchanged. (R186.) -/
def Obligations.BitResult : Prop :=
  ∀ (i : Instr) (s u : State) (m : Byte), dataRead i.form s = some (m, u) →
    i.opcode ∈ ([0x24, 0x2C] : List Byte) →
    exec i s = .next (sequentialEnd i s { u with
      p := { s.p with z := decide ((s.a &&& m) = 0), n := m.getLsbD 7, v := m.getLsbD 6 } })

/-- For every opcode of CMP, CPX and CPY: C is set when the register is not below the operand, unsigned; Z is set when
they are equal; N is bit 7 of the difference; no register and not V is written. (R187, R188, R189, R190.) -/
def Obligations.CompareResult : Prop :=
  ∀ (i : Instr) (s u : State) (m : Byte), dataRead i.form s = some (m, u) →
    (i.opcode ∈ ([0xC1, 0xC5, 0xC9, 0xCD, 0xD1, 0xD5, 0xD9, 0xDD] : List Byte) →
      exec i s = .next (sequentialEnd i s { u with
        p := { s.p with c := decide (m.toNat ≤ (s.a).toNat), z := decide (s.a = m), n := (s.a - m).msb } })) ∧
    (i.opcode ∈ ([0xE0, 0xE4, 0xEC] : List Byte) →
      exec i s = .next (sequentialEnd i s { u with
        p := { s.p with c := decide (m.toNat ≤ (s.x).toNat), z := decide (s.x = m), n := (s.x - m).msb } })) ∧
    (i.opcode ∈ ([0xC0, 0xC4, 0xCC] : List Byte) →
      exec i s = .next (sequentialEnd i s { u with
        p := { s.p with c := decide (m.toNat ≤ (s.y).toNat), z := decide (s.y = m), n := (s.y - m).msb } }))

/-- For every opcode of INC and DEC: one read, then one write of the byte plus (minus) one modulo 256, at one effective
address; Z and N are the result's; C and V are unchanged. (R191, R192.) -/
def Obligations.IncrementDecrementMemoryResult : Prop :=
  ∀ (i : Instr) (s : State) (ea : Word), storeAddress i.form s = some ea →
    let (v, u) := memRead ea (resolvedState i.form s)
    (i.opcode ∈ ([0xE6, 0xEE, 0xF6, 0xFE] : List Byte) →
      exec i s = .next (sequentialEnd i s { memWrite ea (v + 1) u with
        p := { s.p with z := decide (v + 1 = 0), n := (v + 1).msb } })) ∧
    (i.opcode ∈ ([0xC6, 0xCE, 0xD6, 0xDE] : List Byte) →
      exec i s = .next (sequentialEnd i s { memWrite ea (v - 1) u with
        p := { s.p with z := decide (v - 1 = 0), n := (v - 1).msb } }))

/-- INX, INY, DEX and DEY add or subtract one modulo 256, and set Z and N from the result; nothing else changes but PC
and Cycles. (R193, R194, R195, R196.) -/
def Obligations.IncrementDecrementRegisterResult : Prop :=
  ∀ (i : Instr) (s : State),
    (i.opcode = 0xE8 →
      exec i s = .next (sequentialEnd i s { s with x := s.x + 1, p := { s.p with z := decide (s.x + 1 = 0), n := (s.x + 1).msb } })) ∧
    (i.opcode = 0xC8 →
      exec i s = .next (sequentialEnd i s { s with y := s.y + 1, p := { s.p with z := decide (s.y + 1 = 0), n := (s.y + 1).msb } })) ∧
    (i.opcode = 0xCA →
      exec i s = .next (sequentialEnd i s { s with x := s.x - 1, p := { s.p with z := decide (s.x - 1 = 0), n := (s.x - 1).msb } })) ∧
    (i.opcode = 0x88 →
      exec i s = .next (sequentialEnd i s { s with y := s.y - 1, p := { s.p with z := decide (s.y - 1 = 0), n := (s.y - 1).msb } }))

/-- On the accumulator: ASL doubles, LSR halves, ROL doubles and adds the old carry, ROR halves and puts the old carry
in bit 7, all modulo 256; C is the bit shifted off; Z and N are the result's; no memory is touched. (R197, R198,
R199, R200, R201.) -/
def Obligations.ShiftAccumulatorResult : Prop :=
  ∀ (i : Instr) (s : State),
    let v := s.a
    (i.opcode = 0x0A →
      let r : Byte := BitVec.ofNat 8 (2 * v.toNat)
      exec i s = .next (sequentialEnd i s { s with a := r, p := { s.p with c := v.msb, z := decide (r = 0), n := r.msb } })) ∧
    (i.opcode = 0x4A →
      let r : Byte := BitVec.ofNat 8 (v.toNat / 2)
      exec i s = .next (sequentialEnd i s { s with a := r, p := { s.p with c := v.getLsbD 0, z := decide (r = 0), n := r.msb } })) ∧
    (i.opcode = 0x2A →
      let r : Byte := BitVec.ofNat 8 (2 * v.toNat + s.p.c.toNat)
      exec i s = .next (sequentialEnd i s { s with a := r, p := { s.p with c := v.msb, z := decide (r = 0), n := r.msb } })) ∧
    (i.opcode = 0x6A →
      let r : Byte := BitVec.ofNat 8 (v.toNat / 2 + 128 * s.p.c.toNat)
      exec i s = .next (sequentialEnd i s { s with a := r, p := { s.p with c := v.getLsbD 0, z := decide (r = 0), n := r.msb } }))

/-- On memory: one read of the effective address, then one write of the shifted byte to it, with the results and flags
of the accumulator forms; A is unchanged. (R180, R197, R198, R199, R200, R201.) -/
def Obligations.ShiftMemoryResult : Prop :=
  ∀ (i : Instr) (s : State) (ea : Word), storeAddress i.form s = some ea →
    let (v, u) := memRead ea (resolvedState i.form s)
    (i.opcode ∈ ([0x06, 0x0E, 0x16, 0x1E] : List Byte) →
      let r : Byte := BitVec.ofNat 8 (2 * v.toNat)
      exec i s = .next (sequentialEnd i s { memWrite ea r u with p := { s.p with c := v.msb, z := decide (r = 0), n := r.msb } })) ∧
    (i.opcode ∈ ([0x46, 0x4E, 0x56, 0x5E] : List Byte) →
      let r : Byte := BitVec.ofNat 8 (v.toNat / 2)
      exec i s = .next (sequentialEnd i s { memWrite ea r u with p := { s.p with c := v.getLsbD 0, z := decide (r = 0), n := r.msb } })) ∧
    (i.opcode ∈ ([0x26, 0x2E, 0x36, 0x3E] : List Byte) →
      let r : Byte := BitVec.ofNat 8 (2 * v.toNat + s.p.c.toNat)
      exec i s = .next (sequentialEnd i s { memWrite ea r u with p := { s.p with c := v.msb, z := decide (r = 0), n := r.msb } })) ∧
    (i.opcode ∈ ([0x66, 0x6E, 0x76, 0x7E] : List Byte) →
      let r : Byte := BitVec.ofNat 8 (v.toNat / 2 + 128 * s.p.c.toNat)
      exec i s = .next (sequentialEnd i s { memWrite ea r u with p := { s.p with c := v.getLsbD 0, z := decide (r = 0), n := r.msb } }))

/-- For each of the eight branches and every offset: not taken, PC is PC + 2 and 2 cycles are charged; taken, PC is PC +
2 plus the signed offset and 3 cycles are charged, 4 when the target is on another page than PC + 2. No flag,
register or memory byte is written and no byte is read. (The one taken case left out, a branch to itself under
SourceHeuristic, is SelfTransferUnderSourceHeuristic.) (R230, R231, R232, R233, R234, R235, R236, R237, R238.) -/
def Obligations.BranchResult : Prop :=
  ∀ (s : State) (off : Byte) (i : Instr) (taken : Bool),
    (i, taken) ∈ [(Instr.bcc off, !s.p.c), (Instr.bcs off, s.p.c), (Instr.beq off, s.p.z), (Instr.bmi off, s.p.n), 
        (Instr.bne off, !s.p.z), (Instr.bpl off, !s.p.n), (Instr.bvc off, !s.p.v), (Instr.bvs off, s.p.v)] →
    let t := s.pc + 2 + off.signExtend 16
    (taken = false → exec i s = .next { s with pc := s.pc + 2, cycles := s.cycles + 2 }) ∧
    (taken = true → s.params.pcUpdate = .architectural ∨ t ≠ s.pc →
      exec i s = .next { s with
        pc := t
        cycles := s.cycles + (if page (s.pc + 2) = page t then 3 else 4) })

/-- With PC_UPDATE_MODE = SourceHeuristic: a taken branch to itself goes to PC + 2 for 3 cycles; JSR to itself goes to
PC + 3 with its return address pushed as ever; RTS and RTI that return to themselves go to PC + 1; BRK whose vector
is its own address goes to PC + 2; a JMP to itself stays. Wherever the Architectural mode leaves PC at another
address than the instruction's own, the two modes answer the same state. (R120.) -/
def Obligations.SelfTransferUnderSourceHeuristic : Prop :=
  ∀ (s : State), s.params.pcUpdate = .sourceHeuristic →
    (∀ (off : Byte) (i : Instr) (taken : Bool),
      (i, taken) ∈ [(Instr.bcc off, !s.p.c), (Instr.bcs off, s.p.c), (Instr.beq off, s.p.z), (Instr.bmi off, s.p.n), 
        (Instr.bne off, !s.p.z), (Instr.bpl off, !s.p.n), (Instr.bvc off, !s.p.v), (Instr.bvs off, s.p.v)] →
      taken = true → s.pc + 2 + off.signExtend 16 = s.pc →
      exec i s = .next { s with pc := s.pc + 2, cycles := s.cycles + 3 }) ∧
    (∃ t, exec (.jsr s.pc) s = .next t ∧ t.pc = s.pc + 3 ∧ t.mem = (push16 (s.pc + 2) s).mem) ∧
    ((pop16 s).1 + 1 = s.pc → ∃ t, exec .rts s = .next t ∧ t.pc = s.pc + 1) ∧
    ((pop16 (pop s).2).1 = s.pc → ∃ t, exec .rti s = .next t ∧ t.pc = s.pc + 1) ∧
    (s.irqAddress = s.pc → ∃ t, exec .brk s = .next t ∧ t.pc = s.pc + 2) ∧
    (exec (.jmpAbs s.pc) s = .next { s with cycles := s.cycles + 3 }) ∧
    (∀ addr, (readWordBug addr s).1 = s.pc → ∃ t, exec (.jmpInd addr) s = .next t ∧ t.pc = s.pc) ∧
    (∀ (i : Instr) (t u : State), exec i s = .next t →
      exec i { s with params := { s.params with pcUpdate := .architectural } } = .next u → u.pc ≠ s.pc →
      t = { u with params := s.params })

/-- In both PC_UPDATE_MODEs, a jump to its own address included: JMP abs sets PC to its operand for 3 cycles and reads
no data; JMP (abs) sets PC to the word the wrap-bug reader gives at its operand, for 5 cycles. (R239.) -/
def Obligations.JumpResult : Prop :=
  ∀ (i : Instr) (s : State) (addr : Word),
    (i.opcode = 0x4C → i.form = .mem (.abs addr) →
      exec i s = .next { s with pc := addr, cycles := s.cycles + 3 }) ∧
    (i.opcode = 0x6C → i.form = .ind addr →
      exec i s = .next { (readWordBug addr s).2 with
        pc := (readWordBug addr s).1
        cycles := s.cycles + 5 })

/-- JSR pushes PC + 2 and transfers to its operand; RTS pops a word and transfers to it plus one, modulo 65,536; each
costs 6 cycles. Where the transfer lands is R119, or R120 when the target is the instruction itself under
SourceHeuristic (landing). (R240, R241.) -/
def Obligations.SubroutineResult : Prop :=
  ∀ (i : Instr) (s : State) (addr : Word),
    (i.opcode = 0x20 → i.form = .mem (.abs addr) →
      exec i s = .next { push16 (s.pc + 2) s with
        pc := landing 3 addr s
        cycles := s.cycles + 6 }) ∧
    (i.opcode = 0x60 →
      exec i s = .next { (pop16 s).2 with
        pc := landing 1 ((pop16 s).1 + 1) s
        cycles := s.cycles + 6 })

/-- Under PlainRAM, at every SP (wraps included): an RTS run on what a JSR left returns to the instruction after the
JSR, with SP, A, X, Y and P as before. (R71, R240, R241.) -/
def Obligations.SubroutineReturns : Prop :=
  ∀ (s t u : State) (addr : Word),
    s.params.memory = .plainRam → s.params.pcUpdate = .architectural →
    exec (.jsr addr) s = .next t → exec .rts t = .next u →
    u.pc = s.pc + 3 ∧ u.sp = s.sp ∧ u.a = s.a ∧ u.x = s.x ∧ u.y = s.y ∧ u.p = s.p

/-- PHA pushes A; PHP pushes Pack(P) OR $30 and leaves P; PLA pops A and sets N and Z; PLP pops all eight flags with B
<- 0 and U <- 1. (R260, R261, R262, R263.) -/
def Obligations.StackInstructionResult : Prop :=
  ∀ (i : Instr) (s : State),
    (i.opcode = 0x48 → exec i s = .next (sequentialEnd i s (push s.a s))) ∧
    (i.opcode = 0x08 → exec i s = .next (sequentialEnd i s (push (pack s.p ||| 0x30) s))) ∧
    (i.opcode = 0x68 →
      exec i s = .next (sequentialEnd i s { (pop s).2 with
        a := (pop s).1
        p := { s.p with z := decide ((pop s).1 = 0), n := (pop s).1.msb } })) ∧
    (i.opcode = 0x28 →
      exec i s = .next (sequentialEnd i s { (pop s).2 with
        p := unpack (((pop s).1 &&& 0xEF) ||| 0x20) }))

/-- CLC, CLD, CLI, CLV, SEC, SED and SEI write their one flag and nothing else but PC and Cycles. (R264, R265, R266,
R267, R268, R269, R270.) -/
def Obligations.FlagInstructionResult : Prop :=
  ∀ (i : Instr) (s : State),
    (i.opcode = 0x18 → exec i s = .next (sequentialEnd i s { s with p := { s.p with c := false } })) ∧
    (i.opcode = 0xD8 → exec i s = .next (sequentialEnd i s { s with p := { s.p with d := false } })) ∧
    (i.opcode = 0x58 → exec i s = .next (sequentialEnd i s { s with p := { s.p with i := false } })) ∧
    (i.opcode = 0xB8 → exec i s = .next (sequentialEnd i s { s with p := { s.p with v := false } })) ∧
    (i.opcode = 0x38 → exec i s = .next (sequentialEnd i s { s with p := { s.p with c := true } })) ∧
    (i.opcode = 0xF8 → exec i s = .next (sequentialEnd i s { s with p := { s.p with d := true } })) ∧
    (i.opcode = 0x78 → exec i s = .next (sequentialEnd i s { s with p := { s.p with i := true } }))

/-- Each of the 28 NOP opcodes moves PC past its bytes and charges its table cycles (one more on a page cross for the
ABSX forms); nothing else changes, and no data is read or written. (R271, R300.) -/
def Obligations.NopResult : Prop :=
  ∀ (i : Instr) (s : State),
    i.opcode ∈ ([0x04, 0x0C, 0x14, 0x1A, 0x1C, 0x34, 0x3A, 0x3C, 0x44, 0x54, 0x5A, 0x5C, 0x64, 0x74, 0x7A, 0x7C, 0x80, 0x82, 0x89, 0xC2, 0xD4, 0xDA, 0xDC, 0xE2, 0xEA, 0xF4, 0xFA, 0xFC] : List Byte) →
    exec i s = .next (sequentialEnd i s s)

/-- Whatever I holds, BRK pushes PC + 2 high byte first, then Pack(P) OR $30, sets I, transfers to the cached IrqAddress
and costs 7 cycles; D, the stored B, the latches and the markers are unchanged. (R272.) -/
def Obligations.BrkResult : Prop :=
  ∀ (i : Instr) (s : State), i.opcode = 0x00 →
    exec i s = .next { push (pack s.p ||| 0x30) (push16 (s.pc + 2) s) with
      p := { s.p with i := true }
      pc := landing 2 s.irqAddress s
      cycles := s.cycles + 7 }

/-- RTI pops the status byte (B <- 0, U <- 1), then PC low byte first, clears NmiRunning and IrqRunning and transfers to
the popped address with no plus one, for 6 cycles. (R273.) -/
def Obligations.RtiResult : Prop :=
  ∀ (i : Instr) (s : State), i.opcode = 0x40 →
    let (v, u) := pop s
    let (t, w) := pop16 u
    exec i s = .next { w with
      p := unpack ((v &&& 0xEF) ||| 0x20)
      nmiRunning := false
      irqRunning := false
      pc := landing 1 t s
      cycles := s.cycles + 6 }

/-- Under PlainRAM, from a state that meets the invariant: an RTI run on what a BRK left continues past the signature
byte, with SP and every flag as before the BRK. (R39, R272, R273, R331.) -/
def Obligations.BrkThenRtiResumes : Prop :=
  ∀ (s t u : State),
    s.params.memory = .plainRam → s.params.pcUpdate = .architectural → CoreInv s →
    exec .brk s = .next t → exec .rti t = .next u →
    u.pc = s.pc + 2 ∧ u.sp = s.sp ∧ u.p = s.p

/-- For every opcode: read ea, write the shifted byte there, read ea again, combine that byte with A; C is the shift's,
Z and N are A's, V is unchanged. Under the host oracle the second read may answer another byte; under PlainRAM it
answers the byte written (PortReadsTheLatestWrite). (R291, R292, R293.) -/
def Obligations.ComposedLogicResult : Prop :=
  ∀ (i : Instr) (s : State) (ea : Word), storeAddress i.form s = some ea →
    let (v, u) := memRead ea (resolvedState i.form s)
    (i.opcode ∈ ([0x03, 0x07, 0x0F, 0x13, 0x17, 0x1B, 0x1F] : List Byte) →
      let r : Byte := BitVec.ofNat 8 (2 * v.toNat)
      let (m, x) := memRead ea (memWrite ea r u)
      exec i s = .next (sequentialEnd i s { x with
        a := s.a ||| m
        p := { s.p with c := v.msb, z := decide ((s.a ||| m) = 0), n := (s.a ||| m).msb } })) ∧
    (i.opcode ∈ ([0x23, 0x27, 0x2F, 0x33, 0x37, 0x3B, 0x3F] : List Byte) →
      let r : Byte := BitVec.ofNat 8 (2 * v.toNat + s.p.c.toNat)
      let (m, x) := memRead ea (memWrite ea r u)
      exec i s = .next (sequentialEnd i s { x with
        a := s.a &&& m
        p := { s.p with c := v.msb, z := decide ((s.a &&& m) = 0), n := (s.a &&& m).msb } })) ∧
    (i.opcode ∈ ([0x43, 0x47, 0x4F, 0x53, 0x57, 0x5B, 0x5F] : List Byte) →
      let r : Byte := BitVec.ofNat 8 (v.toNat / 2)
      let (m, x) := memRead ea (memWrite ea r u)
      exec i s = .next (sequentialEnd i s { x with
        a := s.a ^^^ m
        p := { s.p with c := v.getLsbD 0, z := decide ((s.a ^^^ m) = 0), n := (s.a ^^^ m).msb } }))

/-- For every opcode: read ea, write the rotated, decremented or incremented byte there, read ea again, and add it with
the carry that ROR shifted out, compare A with it, or subtract it with the carry as it was; the flags are the second
handler's. (R294, R295, R296.) -/
def Obligations.ComposedArithmeticResult : Prop :=
  ∀ (i : Instr) (s : State) (ea : Word), storeAddress i.form s = some ea →
    let (v, u) := memRead ea (resolvedState i.form s)
    (i.opcode ∈ ([0x63, 0x67, 0x6F, 0x73, 0x77, 0x7B, 0x7F] : List Byte) →
      let r : Byte := BitVec.ofNat 8 (v.toNat / 2 + 128 * s.p.c.toNat)
      let (m, x) := memRead ea (memWrite ea r u)
      let sum := s.a.toNat + m.toNat + (v.getLsbD 0).toNat
      let q : Byte := BitVec.ofNat 8 sum
      exec i s = .next (sequentialEnd i s { x with
        a := q
        p := { s.p with
          c := decide (sum > 255)
          v := decide (s.a.msb = m.msb ∧ s.a.msb ≠ q.msb)
          z := decide (q = 0)
          n := q.msb } })) ∧
    (i.opcode ∈ ([0xC3, 0xC7, 0xCF, 0xD3, 0xD7, 0xDB, 0xDF] : List Byte) →
      let (m, x) := memRead ea (memWrite ea (v - 1) u)
      exec i s = .next (sequentialEnd i s { x with
        p := { s.p with c := decide (m.toNat ≤ s.a.toNat), z := decide (s.a = m), n := (s.a - m).msb } })) ∧
    (i.opcode ∈ ([0xE3, 0xE7, 0xEF, 0xF3, 0xF7, 0xFB, 0xFF] : List Byte) →
      let (m, x) := memRead ea (memWrite ea (v + 1) u)
      let diff : Int := (s.a.toNat : Int) - m.toNat - (1 - s.p.c.toNat)
      let q : Byte := BitVec.ofInt 8 diff
      exec i s = .next (sequentialEnd i s { x with
        a := q
        p := { s.p with
          c := decide (diff ≥ 0)
          v := decide (s.a.msb ≠ m.msb ∧ s.a.msb ≠ q.msb)
          z := decide (q = 0)
          n := q.msb } }))

/-- For each of the 25 unmapped bytes, at every state: the fault record is set to IllegalOpcode with the address of the
byte and the byte, and PC, Cycles, every register and flag, the latches, the markers and memory are as they were.
(That the model answers this as a next state, and stops at the next Step, is its own choice: log entry 5.) (R112,
R333, R334.) -/
def Obligations.IllegalOpcodeResult : Prop :=
  ∀ (i : Instr) (s : State), i.opcode ∈ unmappedBytes →
    exec i s = .next { s with fault := some (.illegalOpcode s.pc i.opcode) }

/-- For every mapped instruction, whatever its next state: A is unchanged unless it is one of A's writers of R31 (the
shifts and rotates only in accumulator mode), X unless one of R32's, Y unless one of R33's, SP unless TXS or a push
or pop instruction of R34. (R31, R32, R33, R34.) -/
def Obligations.RegisterFrame : Prop :=
  ∀ (i : Instr) (s t : State) (mn : Mnemonic), i.mnemonic = some mn → exec i s = .next t →
    (mn ∉ ([.lda, .txa, .tya, .pla, .adc, .sbc, .sbcUnofficial, .and, .ora, .eor, .lax, .slo, .rla, .sre, .rra, .isc, .asl, .lsr, .rol, .ror] : List Mnemonic) → t.a = s.a) ∧
    (mn ∈ ([.asl, .lsr, .rol, .ror] : List Mnemonic) → i.form ≠ .acc → t.a = s.a) ∧
    (mn ∉ ([.ldx, .tax, .tsx, .inx, .dex, .lax] : List Mnemonic) → t.x = s.x) ∧
    (mn ∉ ([.ldy, .tay, .iny, .dey] : List Mnemonic) → t.y = s.y) ∧
    (mn ∉ ([.txs, .pha, .php, .pla, .plp, .jsr, .rts, .brk, .rti] : List Mnemonic) → t.sp = s.sp)

/-- For every mapped instruction, whatever its next state: C, Z, N, I, D, V and the stored B and U are each unchanged
unless the instruction is among the flag's writers in R37. (R37, R39.) -/
def Obligations.FlagFrame : Prop :=
  ∀ (i : Instr) (s t : State) (mn : Mnemonic), i.mnemonic = some mn → exec i s = .next t →
    (mn ∉ ([.adc, .sbc, .sbcUnofficial, .asl, .lsr, .rol, .ror, .cmp, .cpx, .cpy, .clc, .sec, .plp, .rti, .slo, .rla, .sre, .rra, .dcp, .isc] : List Mnemonic) → t.p.c = s.p.c) ∧
    (mn ∉ ([.lda, .ldx, .ldy, .tax, .tay, .txa, .tya, .tsx, .pla, .adc, .sbc, .sbcUnofficial, .and, .ora, .eor, .bit, .cmp, .cpx, .cpy, .inc, .dec, .inx, .iny, .dex, .dey, .asl, .lsr, .rol, .ror, .slo, .rla, .sre, .rra, .dcp, .isc, .lax, .plp, .rti] : List Mnemonic) → t.p.z = s.p.z ∧ t.p.n = s.p.n) ∧
    (mn ∉ ([.sei, .cli, .plp, .rti, .brk] : List Mnemonic) → t.p.i = s.p.i) ∧
    (mn ∉ ([.sed, .cld, .plp, .rti] : List Mnemonic) → t.p.d = s.p.d) ∧
    (mn ∉ ([.plp, .rti] : List Mnemonic) → t.p.b = s.p.b ∧ t.p.u = s.p.u) ∧
    (mn ∉ ([.adc, .sbc, .sbcUnofficial, .bit, .clv, .plp, .rti, .rra, .isc] : List Mnemonic) → t.p.v = s.p.v)

/-- For every instruction, whatever its next state: both pending latches, both cached vectors, StallCycles and the
parameters are unchanged; the running markers are unchanged unless it is RTI; the fault record is unchanged unless
the byte is unmapped. (That the parameters of R5 are a field of State, which no instruction writes, is the model's
choice: log entry 2.) (R5, R42, R43, R44, R45, R334.) -/
def Obligations.ControllerFrame : Prop :=
  ∀ (i : Instr) (s t : State), exec i s = .next t →
    t.nmiPending = s.nmiPending ∧ t.irqPending = s.irqPending ∧
    t.nmiAddress = s.nmiAddress ∧ t.irqAddress = s.irqAddress ∧
    t.stallCycles = s.stallCycles ∧ t.params = s.params ∧
    (i.opcode ≠ 0x40 → t.nmiRunning = s.nmiRunning ∧ t.irqRunning = s.irqRunning) ∧
    (i.opcode ∉ unmappedBytes → t.fault = s.fault)

/-- For every instruction that is no store, no read-modify-write of memory and no push (the accumulator forms of the
shifts and the unmapped bytes included): every byte of memory reads after it as before it. (R76, R108, R109.) -/
def Obligations.MemoryFrameOfFormsThatStoreNothing : Prop :=
  ∀ (i : Instr) (s t : State), exec i s = .next t →
    (∀ mn, i.mnemonic = some mn → mn ∉ ([.sta, .stx, .sty, .sax, .inc, .dec, .slo, .rla, .sre, .rra, .dcp, .isc, .pha, .php, .jsr, .brk] : List Mnemonic)) →
    (∀ mn, i.mnemonic = some mn → mn ∈ ([.asl, .lsr, .rol, .ror] : List Mnemonic) → i.form = .acc) →
    ∀ a : Word, t.byteAt a = s.byteAt a

/-- For every store and every read-modify-write instruction on memory, the composed ones included: every byte outside
the one at the form's effective address (storeAddress, computed at the state before the instruction) reads after it
as before it. (R76, R109, R180, R290.) -/
def Obligations.MemoryFrameOfStores : Prop :=
  ∀ (i : Instr) (s t : State) (mn : Mnemonic) (ea : Word), i.mnemonic = some mn → exec i s = .next t →
    mn ∈ ([.sta, .stx, .sty, .sax, .inc, .dec, .slo, .rla, .sre, .rra, .dcp, .isc, .asl, .lsr, .rol, .ror] : List Mnemonic) →
    storeAddress i.form s = some ea →
    ∀ a : Word, a ≠ ea → t.byteAt a = s.byteAt a

/-- PHA and PHP change at most the byte at $0100+SP, JSR that and the next lower one, BRK the three from $0100+SP down,
each modulo 256 inside page one; no byte outside $0100 to $01FF changes. (R69, R71, R72, R240, R260, R261, R272.) -/
def Obligations.MemoryFrameOfPushes : Prop :=
  ∀ (i : Instr) (s t : State) (a : Word), exec i s = .next t →
    (i.opcode ∈ ([0x48, 0x08] : List Byte) → a ≠ stackAddr s.sp → t.byteAt a = s.byteAt a) ∧
    (i.opcode = 0x20 → a ≠ stackAddr s.sp → a ≠ stackAddr (s.sp - 1) → t.byteAt a = s.byteAt a) ∧
    (i.opcode = 0x00 → a ≠ stackAddr s.sp → a ≠ stackAddr (s.sp - 1) → a ≠ stackAddr (s.sp - 2) →
      t.byteAt a = s.byteAt a) ∧
    (i.opcode ∈ ([0x48, 0x08, 0x20, 0x00] : List Byte) → a.toNat < 0x0100 ∨ 0x01FF < a.toNat →
      t.byteAt a = s.byteAt a)

/-- Whatever the I flag, the markers, the IRQ latch and the byte at PC: the Step clears the latch, sets NmiRunning,
pushes PC high byte first and the status byte with B = 0 and U = 1, sets I, adds 7 cycles and loads PC from the
cached NmiAddress; IrqPending and IrqRunning are unchanged; the Step makes exactly three port writes and no read.
(R326, R328.) -/
def Obligations.NmiIsServiced : Prop :=
  ∀ (s : State), s.fault = none → s.nmiPending = true → s.params.fusedInterruptStep = false →
    step s = .next { push ((pack s.p &&& 0xEF) ||| 0x20) (push16 s.pc { s with portCalls := [] }) with
      nmiPending := false
      nmiRunning := true
      p := { s.p with i := true }
      cycles := s.cycles + 7
      pc := s.nmiAddress } ∧
    (∀ t, step s = .next t → t.portCalls =
      [.write (stackAddr s.sp) (hi s.pc), .write (stackAddr (s.sp - 1)) (lo s.pc),
       .write (stackAddr (s.sp - 2)) ((pack s.p &&& 0xEF) ||| 0x20)])

/-- With I = 0 and no NMI pending: the Step clears IrqPending, sets IrqRunning, pushes PC and the status byte with B =
0, sets I, adds 7 cycles and loads PC from the cached IrqAddress; NmiPending and NmiRunning are unchanged. (R327,
R328.) -/
def Obligations.IrqIsServiced : Prop :=
  ∀ (s : State), s.fault = none → s.nmiPending = false → s.irqPending = true → s.p.i = false →
    s.params.fusedInterruptStep = false →
    step s = .next { push ((pack s.p &&& 0xEF) ||| 0x20) (push16 s.pc { s with portCalls := [] }) with
      irqPending := false
      irqRunning := true
      p := { s.p with i := true }
      cycles := s.cycles + 7
      pc := s.irqAddress } ∧
    (∀ t, step s = .next t → t.portCalls =
      [.write (stackAddr s.sp) (hi s.pc), .write (stackAddr (s.sp - 1)) (lo s.pc),
       .write (stackAddr (s.sp - 2)) ((pack s.p &&& 0xEF) ||| 0x20)])

/-- With I = 1 and no NMI pending, a Step with the IRQ latch set does exactly what it does with the latch clear, and the
latch stays set. (R323, R325.) -/
def Obligations.IrqIsHeldWhileMasked : Prop :=
  ∀ (s t : State), s.fault = none → s.nmiPending = false → s.p.i = true →
    step { s with irqPending := false } = .next t →
    step { s with irqPending := true } = .next { t with irqPending := true }

/-- With the parameter true, a Step that services an interrupt answers what fetching and running the instruction at the
vector answers, from the state the unfused Step ends in; an unmapped byte there records its fault with the vectoring
kept. (R117, R338.) -/
def Obligations.FusedStepGoesOnAtTheVector : Prop :=
  ∀ (s t : State), s.fault = none → serviceable s = true → s.params.fusedInterruptStep = true →
    step { s with params := { s.params with fusedInterruptStep := false } } = .next t →
    step s = exec (fetch { t with params := s.params }).1 (fetch { t with params := s.params }).2

/-- Once Fault is set no Step is taken; with no fault recorded every Step answers a next state, and every instruction at
every state answers one; Reset leaves no fault recorded. (That the faulting Step itself is a next state is the
model's choice: log entry 5.) (R47, R334, R336, R345.) -/
def Obligations.StepStopsOnlyOnceFaulted : Prop :=
  (∀ (s : State) (e : FatalError), s.fault = some e → step s = .fault (.fatalError e) ∧ happen .step s = none) ∧
  (∀ (s : State), s.fault = none → ∃ t, step s = .next t) ∧
  (∀ (i : Instr) (s : State), ∃ t, exec i s = .next t) ∧
  (∀ (s : State), (hostReset s).fault = none)

/-- Under PlainRAM, from a state that meets the invariant: an RTI run on what the entry to an NMI or IRQ left continues
at the instruction that had not run, with SP, P, A, X and Y as before, and both markers clear. (R39, R328, R331.) -/
def Obligations.InterruptThenRtiResumes : Prop :=
  ∀ (s t u : State), CoreInv s → s.fault = none → serviceable s = true →
    s.params.memory = .plainRam → s.params.pcUpdate = .architectural → s.params.fusedInterruptStep = false →
    step s = .next t → exec .rti t = .next u →
    u.pc = s.pc ∧ u.sp = s.sp ∧ u.p = s.p ∧ u.a = s.a ∧ u.x = s.x ∧ u.y = s.y ∧
    u.nmiRunning = false ∧ u.irqRunning = false

/-- Under PlainRAM, in natural numbers: zp and its indexed forms stay in page zero, wrapping modulo 256; the 16-bit
forms wrap modulo 65,536; the indirect forms read their pointer inside page zero, its high byte from $0000 when the
low byte is at $00FF; and the page-cross bit is set exactly when adding the index carries out of the low byte. (R98,
R99, R100, R101, R102, R103, R105, R106.) -/
def Obligations.EffectiveAddresses : Prop :=
  ∀ (s : State), s.params.memory = .plainRam →
    let pointer : Nat → Nat := fun p =>
      (s.byteAt (BitVec.ofNat 16 (p % 256))).toNat + 256 * (s.byteAt (BitVec.ofNat 16 ((p + 1) % 256))).toNat
    (∀ b : Byte, (resolveMem (.zp b) s).operand.toNat = b.toNat ∧ (resolveMem (.zp b) s).cross = false) ∧
    (∀ b : Byte, (resolveMem (.zpx b) s).operand.toNat = (b.toNat + s.x.toNat) % 256 ∧
      (resolveMem (.zpx b) s).cross = false) ∧
    (∀ b : Byte, (resolveMem (.zpy b) s).operand.toNat = (b.toNat + s.y.toNat) % 256 ∧
      (resolveMem (.zpy b) s).cross = false) ∧
    (∀ w : Word, (resolveMem (.abs w) s).operand = w ∧ (resolveMem (.abs w) s).cross = false) ∧
    (∀ w : Word, (resolveMem (.absx w) s).operand.toNat = (w.toNat + s.x.toNat) % 65536 ∧
      (resolveMem (.absx w) s).cross = decide (256 ≤ w.toNat % 256 + s.x.toNat)) ∧
    (∀ w : Word, (resolveMem (.absy w) s).operand.toNat = (w.toNat + s.y.toNat) % 65536 ∧
      (resolveMem (.absy w) s).cross = decide (256 ≤ w.toNat % 256 + s.y.toNat)) ∧
    (∀ b : Byte, (resolveMem (.indx b) s).operand.toNat = pointer (b.toNat + s.x.toNat) ∧
      (resolveMem (.indx b) s).cross = false) ∧
    (∀ b : Byte, (resolveMem (.indy b) s).operand.toNat = (pointer b.toNat + s.y.toNat) % 65536 ∧
      (resolveMem (.indy b) s).cross = decide (256 ≤ pointer b.toNat % 256 + s.y.toNat))

/-- Under PlainRAM, MemRead answers the byte of the latest MemWrite to the address, or the array's byte there, and
changes no byte. Under the host oracle each read answers the next free value, whatever was written: a statement
about every host (the form of the free values is the model's choice: log entry 3). (R76.) -/
def Obligations.PortReadsTheLatestWrite : Prop :=
  ∀ (s : State),
    (s.params.memory = .plainRam → ∀ (a b : Word) (v : Byte),
      (memRead b (memWrite a v s)).1 = (if b = a then v else (memRead b s).1) ∧
      (memRead b s).1 = s.byteAt b ∧ (memRead b s).2.mem = s.mem) ∧
    (s.params.memory = .hostOracle → ∀ (a b : Word) (v : Byte),
      (memRead b (memWrite a v s)).1 = Config.portDraw s.draws ∧
      (memRead b (memRead a s).2).1 = Config.portDraw (s.draws + 1))

/-- Whatever the memory, it reads the low byte at the address first, then the high byte at the next address of the same
page, and answers the word of the two. Under PlainRAM: where the low byte of the address is not $FF it answers what
ReadWord answers; where it is $FF the high byte comes from the start of the same page. (R65.) -/
def Obligations.ReadWordBugStaysInThePage : Prop :=
  ∀ (s : State) (a : Word),
    (s.params.memory = .plainRam → lo a ≠ 0xFF → (readWordBug a s).1 = (readWord a s).1) ∧
    (s.params.memory = .plainRam → lo a = 0xFF → (readWordBug a s).1 = wordOf (s.byteAt (a - 0xFF)) (s.byteAt a)) ∧
    (∃ l h : Byte, (readWordBug a s).1 = wordOf h l ∧
      (readWordBug a s).2.portCalls = s.portCalls ++ [.read a l, .read (wordOf (hi a) (lo a + 1)) h] ∧
      (s.params.memory = .plainRam → l = s.byteAt a ∧ h = s.byteAt (wordOf (hi a) (lo a + 1))))

/-- Under PlainRAM, at every SP: Push16 puts the high byte at $0100+SP and the low byte one below, modulo 256, and Pop16
gives the word back. 256 pushes leave SP where it was, and no number of pushes writes outside $0100 to $01FF. (R69,
R70, R71, R72.) -/
def Obligations.StackWrapsAndRoundTrips : Prop :=
  (∀ (s : State) (w : Word), s.params.memory = .plainRam →
    (pop16 (push16 w s)).1 = w ∧ (pop16 (push16 w s)).2.sp = s.sp ∧
    (push16 w s).byteAt (stackAddr s.sp) = hi w ∧ (push16 w s).byteAt (stackAddr (s.sp - 1)) = lo w) ∧
  (∀ (s : State) (vs : List Byte), vs.length = 256 → (vs.foldl (fun u v => push v u) s).sp = s.sp) ∧
  (∀ (s : State) (vs : List Byte) (a : Word), a.toNat < 0x0100 ∨ 0x01FF < a.toNat →
    (vs.foldl (fun u v => push v u) s).byteAt a = s.byteAt a)

/-- From every state whose memory is canonical and whose stored B is 0 and U is 1, reachable or not, whatever the
parameters: a step that answers a next state leaves such a state. (R39, R60, R76.) -/
def Obligations.StepKeepsTheInvariant : Prop :=
  ∀ (s t : State), CoreInv s → step s = .next t → CoreInv t

/-- From every state that meets the invariant, any interleaving of Steps with TriggerNmi, TriggerIrq, Reset,
StallCycles, ConsumeStall, Snapshot and memory changes of the host ends in a state that meets it. (R39, R344, R348,
R370.) -/
def Obligations.EveryRunKeepsTheInvariant : Prop :=
  ∀ (events : List Event) (s t : State), CoreInv s → happenAll events s = some t → CoreInv t

/-- State.reset is construction with the default parameters over a memory that lists nothing (that such memory reads $00
is the model's choice: log entry 1), it has the values of R49, and it meets the invariant. (R5, R49, R373.) -/
def Obligations.ResetStateIsConstruction : Prop :=
  State.reset = construct Config.defaultParams [] ∧ CoreInv State.reset ∧
  State.reset.a = 0x00 ∧ State.reset.x = 0x00 ∧ State.reset.y = 0x00 ∧ State.reset.sp = 0xFD ∧
  pack State.reset.p = 0x24 ∧ State.reset.cycles = 7 ∧ State.reset.stallCycles = 0 ∧
  ControllerView.idle.holds State.reset = true ∧ State.reset.fault = none

/-- At every state, faulted or not: Reset gives A, X, Y, SP, P, the latches, markers, counters and Fault their values,
makes exactly six reads, $FFFA to $FFFF in increasing order, and no write, and sets NmiAddress, PC and IrqAddress to
the words of the bytes they answer; under PlainRAM those are the bytes of memory, which is unchanged. (R370.) -/
def Obligations.ResetResult : Prop :=
  ∀ (s : State),
    (s.params.memory = .plainRam → hostReset s = { s with
      a := 0x00, x := 0x00, y := 0x00, sp := 0xFD, p := unpack 0x24
      nmiPending := false, irqPending := false, nmiRunning := false, irqRunning := false
      stallCycles := 0, cycles := s.params.resetCycles, fault := none
      nmiAddress := wordOf (s.byteAt 0xFFFB) (s.byteAt 0xFFFA)
      pc := wordOf (s.byteAt 0xFFFD) (s.byteAt 0xFFFC)
      irqAddress := wordOf (s.byteAt 0xFFFF) (s.byteAt 0xFFFE)
      portCalls := [.read 0xFFFA (s.byteAt 0xFFFA), .read 0xFFFB (s.byteAt 0xFFFB),
        .read 0xFFFC (s.byteAt 0xFFFC), .read 0xFFFD (s.byteAt 0xFFFD),
        .read 0xFFFE (s.byteAt 0xFFFE), .read 0xFFFF (s.byteAt 0xFFFF)] }) ∧
    (∃ n0 n1 r0 r1 i0 i1 : Byte, hostReset s = { s with
      a := 0x00, x := 0x00, y := 0x00, sp := 0xFD, p := unpack 0x24
      nmiPending := false, irqPending := false, nmiRunning := false, irqRunning := false
      stallCycles := 0, cycles := s.params.resetCycles, fault := none
      nmiAddress := wordOf n1 n0, pc := wordOf r1 r0, irqAddress := wordOf i1 i0
      portCalls := [.read 0xFFFA n0, .read 0xFFFB n1, .read 0xFFFC r0, .read 0xFFFD r1, .read 0xFFFE i0, .read 0xFFFF i1]
      draws := (hostReset s).draws })

/-- TriggerNmi and TriggerIrq set their latch and change nothing else, and a second call has no further effect;
StallCycles(n) adds n modulo 2^64; ConsumeStall(k) subtracts k and is no call when k exceeds the budget (that such a
call answers nothing is the model's reading: log entry 17); Snapshot changes nothing. (R321, R322, R341, R342,
R348.) -/
def Obligations.HostCallsResult : Prop :=
  ∀ (s : State) (n k : Count),
    act .triggerNmi s = some { s with nmiPending := true } ∧
    act .triggerIrq s = some { s with irqPending := true } ∧
    act .triggerNmi { s with nmiPending := true } = some { s with nmiPending := true } ∧
    act .triggerIrq { s with irqPending := true } = some { s with irqPending := true } ∧
    act (.stallCycles n) s = some { s with stallCycles := s.stallCycles + n } ∧
    (k ≤ s.stallCycles → act (.consumeStall k) s = some { s with stallCycles := s.stallCycles - k }) ∧
    (¬ k ≤ s.stallCycles → act (.consumeStall k) s = none) ∧
    act .snapshot s = some s

/-- Whatever a step does, a store to $FFFA to $FFFF included: the cached vectors, StallCycles and the parameters are
unchanged, and no latch is set. (That the parameters of R5 are a field of State, which no Step changes, is the
model's choice: log entry 2.) (R5, R42, R43, R45, R376, R381.) -/
def Obligations.StepChangesNoFixedState : Prop :=
  ∀ (s t : State), step s = .next t →
    t.nmiAddress = s.nmiAddress ∧ t.irqAddress = s.irqAddress ∧ t.stallCycles = s.stallCycles ∧
    t.params = s.params ∧ (t.nmiPending = true → s.nmiPending = true) ∧ (t.irqPending = true → s.irqPending = true)

/-- A step that executes an instruction or services an interrupt adds between 2 and 8 to Cycles, page-cross and branch
charges included; a step that records a fault adds nothing. (R5, R41, R118, R230, R328, R334, R380.) -/
def Obligations.StepCyclesAdvance : Prop :=
  ∀ (s t : State), step s = .next t → s.params.fusedInterruptStep = false →
    ∃ n : Nat, t.cycles = s.cycles + BitVec.ofNat 64 n ∧
      (t.fault = none → 2 ≤ n ∧ n ≤ 8) ∧ (t.fault ≠ none → n = 0)

/-- Every instruction but those that push P (PHP, BRK) or write D (CLD, SED, PLP, RTI), ADC and SBC included, does with
D set exactly what it does with D clear, and leaves D as it was. (R37, R122, R180.) -/
def Obligations.DecimalFlagIsReadByNothing : Prop :=
  ∀ (i : Instr) (s t : State) (d : Bool),
    i.opcode ∉ ([0x08, 0x00, 0xD8, 0xF8, 0x28, 0x40] : List Byte) → exec i s = .next t →
    exec i { s with p := { s.p with d := d } } = .next { t with p := { t.p with d := d } }

/-- (1) Under PlainRAM, the state is at a self-jump exactly when the bytes at PC are 4C lo hi with the operand PC, or 6C
lo hi whose pointer, read with the page-wrap bug, is PC. (2) With either memory and in both PC_UPDATE_MODEs: from a
normal end a Step changes nothing but Cycles, by 3 or 5, and the port's record, and under PlainRAM it ends in such a
state again. (3) A run that has ended ended at a completed Step, before which it had not ended; a fault end recorded
a fault and a normal end meets the three conditions. (4) While a run goes on, every Step of it has left neither end,
and it holds no Reset. (5) A program that ends faults in no run that the host can make. (What a self-jump is under
the host oracle is the model's reading: log entry 21; that an endless run keeps asking for Steps is the model's
choice: log entry 22.) (R104, R239, R334, R371, R382.) -/
def Obligations.SelfJumpIsANormalEnd : Prop :=
  (∀ (s : State), s.params.memory = .plainRam →
    let operand := wordOf (s.byteAt (s.pc + 2)) (s.byteAt (s.pc + 1))
    (selfJump s = true ↔
      (s.byteAt s.pc = 0x4C ∧ operand = s.pc) ∨
      (s.byteAt s.pc = 0x6C ∧ wordOf (s.byteAt (wordOf (hi operand) (lo operand + 1))) (s.byteAt operand) = s.pc))) ∧
  (∀ (s : State), normalEnd s = true →
    ∃ t, step s = .next t ∧
      t = { s with cycles := t.cycles, draws := t.draws, portCalls := t.portCalls } ∧
      (t.cycles = s.cycles + 3 ∨ t.cycles = s.cycles + 5) ∧
      (s.params.memory = .plainRam → t.draws = s.draws ∧ normalEnd t = true)) ∧
  (∀ (events : List Event) (s t : State) (e : RunEnd), runFrom events s = .ended e t →
    ∃ before after u, events = before ++ .step :: after ∧ runFrom before s = .going u ∧ step u = .next t ∧
      (e = .fault → t.fault ≠ none) ∧ (e = .normal → normalEnd t = true)) ∧
  (∀ (before after : List Event) (s u : State), runFrom (before ++ after) s = .going u →
    ∃ t, happenAll before s = some t ∧ runFrom before s = .going t ∧
      (∀ earlier, before = earlier ++ [.step] → t.fault = none ∧ normalEnd t = false) ∧
      .host .reset ∉ before) ∧
  (∀ (may : HostAction → Bool) (start t : State) (events : List Event), ProgramEndsUnder may start →
    (∀ h, .host h ∈ events → may h = true) → runFrom events start ≠ .ended .fault t)
end

