-- ==== Sys2Proof/Laws/Flags.lean ====
section
/-! SUPPORT. The laws of the status byte and of the flag computations. -/

namespace Sys2Proof.Machine

/-- Unpack undoes Pack (R38). -/
@[simp] theorem unpack_pack (p : Flags) : unpack (pack p) = p := by
  rcases p with ⟨c, z, i, d, b, u, v, n⟩
  revert c z i d b u v n
  decide

/-- PLP and RTI store B = 0 (R39). -/
@[simp] theorem loadedFlags_b (v : Byte) : (loadedFlags v).b = false := by
  simp [loadedFlags, unpack]

/-- PLP and RTI store U = 1 (R39). -/
@[simp] theorem loadedFlags_u (v : Byte) : (loadedFlags v).u = true := by
  simp [loadedFlags, unpack]

/-- The byte a hardware interrupt pushes loads back as the flags it was packed from, where B and U are as stored. -/
theorem loadedFlags_hardwareStatus (p : Flags) (hb : p.b = false) (hu : p.u = true) :
    loadedFlags (hardwareStatus p) = p := by
  rcases p with ⟨c, z, i, d, b, u, v, n⟩
  simp only at hb hu
  subst hb hu
  revert c z i d v n
  decide

/-- The byte BRK and PHP push loads back as the flags it was packed from, where B and U are as stored. -/
theorem loadedFlags_softwareStatus (p : Flags) (hb : p.b = false) (hu : p.u = true) :
    loadedFlags (softwareStatus p) = p := by
  rcases p with ⟨c, z, i, d, b, u, v, n⟩
  simp only at hb hu
  subst hb hu
  revert c z i d v n
  decide

/-- All that SetNZ can do (R40). -/
theorem setNZ_eq (v : Byte) (p : Flags) : setNZ v p = { p with z := decide (v = 0), n := v.msb } := by
  simp [setNZ, BitVec.msb_eq_getLsbD_last, BEq.beq]

@[simp] theorem setNZ_c (v : Byte) (p : Flags) : (setNZ v p).c = p.c := rfl
@[simp] theorem setNZ_i (v : Byte) (p : Flags) : (setNZ v p).i = p.i := rfl
@[simp] theorem setNZ_d (v : Byte) (p : Flags) : (setNZ v p).d = p.d := rfl
@[simp] theorem setNZ_b (v : Byte) (p : Flags) : (setNZ v p).b = p.b := rfl
@[simp] theorem setNZ_u (v : Byte) (p : Flags) : (setNZ v p).u = p.u := rfl
@[simp] theorem setNZ_v (v : Byte) (p : Flags) : (setNZ v p).v = p.v := rfl

/-- Whether a flag computation leaves I, D, B and U alone, as all of 42_alu.md's do (R37). -/
def KeepsControl (p q : Flags) : Prop := q.i = p.i ∧ q.d = p.d ∧ q.b = p.b ∧ q.u = p.u

theorem addWithCarry_keeps (a m : Byte) (p : Flags) : KeepsControl p (addWithCarry a m p).2 := ⟨rfl, rfl, rfl, rfl⟩
theorem subWithBorrow_keeps (a m : Byte) (p : Flags) : KeepsControl p (subWithBorrow a m p).2 := ⟨rfl, rfl, rfl, rfl⟩
theorem compareFlags_keeps (a m : Byte) (p : Flags) : KeepsControl p (compareFlags a m p) := ⟨rfl, rfl, rfl, rfl⟩
theorem bitFlags_keeps (a m : Byte) (p : Flags) : KeepsControl p (bitFlags a m p) := ⟨rfl, rfl, rfl, rfl⟩
theorem shiftLeft_keeps (v : Byte) (p : Flags) : KeepsControl p (shiftLeft v p).2 := ⟨rfl, rfl, rfl, rfl⟩
theorem shiftRight_keeps (v : Byte) (p : Flags) : KeepsControl p (shiftRight v p).2 := ⟨rfl, rfl, rfl, rfl⟩
theorem rotateLeft_keeps (v : Byte) (p : Flags) : KeepsControl p (rotateLeft v p).2 := ⟨rfl, rfl, rfl, rfl⟩
theorem rotateRight_keeps (v : Byte) (p : Flags) : KeepsControl p (rotateRight v p).2 := ⟨rfl, rfl, rfl, rfl⟩
theorem increment_keeps (v : Byte) (p : Flags) : KeepsControl p (increment v p).2 := ⟨rfl, rfl, rfl, rfl⟩
theorem decrement_keeps (v : Byte) (p : Flags) : KeepsControl p (decrement v p).2 := ⟨rfl, rfl, rfl, rfl⟩

end Sys2Proof.Machine
end

