-- ==== Sys2Proof/Laws/Memory.lean ====
section
/-! SUPPORT. The laws of the byte array: a read after a write, and that a write keeps the canonical form. -/

namespace Sys2Proof.Machine

theorem Memory.load_filter_ne (m : Memory) (a b : Nat) :
    Memory.load (m.filter (fun c => c.1 != a)) b = if b = a then Config.unwrittenByte else m.load b := by
  induction m with
  | nil => simp [Memory.load]
  | cons c m ih =>
    rw [List.filter_cons]
    by_cases hc : c.1 = a
    · simp only [hc, bne_self_eq_false, Bool.false_eq_true, if_false, ih]
      split
      · rfl
      · rename_i h
        simp [Memory.load, hc, Ne.symm h]
    · simp only [bne_iff_ne, ne_eq, hc, not_false_eq_true, if_true, Memory.load, ih]
      by_cases hb : c.1 = b
      · subst hb; simp [hc]
      · simp [hb]

theorem Memory.load_place (m : Memory) (c : Host.Cell) (b : Nat) (h : m.load c.1 = Config.unwrittenByte)
    (hn : ∀ d ∈ m, d.1 ≠ c.1) :
    Memory.load (Memory.place m c) b = if b = c.1 then c.2 else m.load b := by
  induction m with
  | nil => simp [Memory.place, Memory.load, eq_comm]
  | cons d m ih =>
    have hd : d.1 ≠ c.1 := hn d (by simp)
    have hm : ∀ e ∈ m, e.1 ≠ c.1 := fun e he => hn e (by simp [he])
    have hg : Memory.load m c.1 = Config.unwrittenByte := by simpa [Memory.load, hd] using h
    unfold Memory.place
    split
    · by_cases hb : b = c.1
      · simp [Memory.load, hb]
      · simp [Memory.load, hb, Ne.symm hb]
    · simp only [Memory.load, ih hg hm]
      by_cases hb : d.1 = b
      · subst hb; simp [hd]
      · simp [hb]

theorem Memory.mem_filter_ne (m : Memory) (a : Nat) (d : Host.Cell)
    (h : d ∈ m.filter (fun c => c.1 != a)) : d.1 ≠ a := by
  have := List.of_mem_filter h
  simpa using this

/-- What every read answers after a write. -/
theorem Memory.load_store (m : Memory) (a b : Nat) (v : Byte) :
    (m.store a v).load b = if b = a then v else m.load b := by
  unfold Memory.store
  split
  · rename_i hv
    rw [Memory.load_filter_ne, hv]
  · rw [Memory.load_place _ (a, v) b (by simp [Memory.load_filter_ne])
      (fun d hd => Memory.mem_filter_ne m a d hd), Memory.load_filter_ne]
    split <;> rfl

@[simp] theorem Memory.load_store_same (m : Memory) (a : Nat) (v : Byte) : (m.store a v).load a = v := by
  simp [Memory.load_store]

theorem Memory.load_store_other (m : Memory) (a b : Nat) (v : Byte) (h : b ≠ a) :
    (m.store a v).load b = m.load b := by
  simp [Memory.load_store, h]

/-- The addresses of a rising memory, as a pairwise fact. -/
theorem Memory.rising_iff (m : Memory) : m.rising = true ↔ m.Pairwise (fun c d => c.1 < d.1) := by
  induction m with
  | nil => simp [Memory.rising]
  | cons c m ih =>
    cases m with
    | nil => simp [Memory.rising]
    | cons d m =>
      simp only [Memory.rising, Bool.and_eq_true, decide_eq_true_eq, ih]
      constructor
      · rintro ⟨h, hp⟩
        refine List.pairwise_cons.2 ⟨fun e he => ?_, hp⟩
        rcases List.mem_cons.1 he with rfl | he
        · exact h
        · exact Nat.lt_trans h ((List.pairwise_cons.1 hp).1 e he)
      · intro hp
        exact ⟨(List.pairwise_cons.1 hp).1 d (by simp), (List.pairwise_cons.1 hp).2⟩

theorem Memory.wf_iff (m : Memory) :
    m.wf = true ↔ (∀ c ∈ m, cellWf c = true) ∧ m.Pairwise (fun c d => c.1 < d.1) := by
  simp [Memory.wf, Memory.rising_iff, List.all_eq_true]

theorem Memory.mem_place (m : Memory) (c d : Host.Cell) : d ∈ Memory.place m c ↔ d = c ∨ d ∈ m := by
  induction m with
  | nil => simp [Memory.place]
  | cons e m ih =>
    unfold Memory.place
    split
    · simp
    · simp only [List.mem_cons, ih]; tauto

theorem Memory.place_pairwise (m : Memory) (c : Host.Cell) (h : m.Pairwise (fun c d => c.1 < d.1))
    (hn : ∀ d ∈ m, d.1 ≠ c.1) : (Memory.place m c).Pairwise (fun c d => c.1 < d.1) := by
  induction m with
  | nil => simp [Memory.place]
  | cons e m ih =>
    have ⟨h1, h2⟩ := List.pairwise_cons.1 h
    unfold Memory.place
    split
    · rename_i hlt
      refine List.pairwise_cons.2 ⟨fun d hd => ?_, h⟩
      rcases List.mem_cons.1 hd with rfl | hd
      · exact hlt
      · exact Nat.lt_trans hlt (h1 d hd)
    · rename_i hge
      refine List.pairwise_cons.2 ⟨fun d hd => ?_, ih h2 (fun d hd => hn d (by simp [hd]))⟩
      rcases (Memory.mem_place m c d).1 hd with rfl | hd
      · have := hn e (by simp); omega
      · exact h1 d hd

/-- A write keeps the canonical form. -/
theorem Memory.store_wf (m : Memory) (a : Nat) (v : Byte) (ha : a < 65536) (h : m.wf = true) :
    (m.store a v).wf = true := by
  rw [Memory.wf_iff] at h ⊢
  have hf : ∀ d ∈ m.filter (fun c => c.1 != a), cellWf d = true :=
    fun d hd => h.1 d (List.mem_of_mem_filter hd)
  unfold Memory.store
  split
  · exact ⟨hf, h.2.filter _⟩
  · rename_i hv
    refine ⟨fun d hd => ?_, Memory.place_pairwise _ _ (h.2.filter _)
      (fun d hd => Memory.mem_filter_ne m a d hd)⟩
    rcases (Memory.mem_place _ _ _).1 hd with rfl | hd
    · simp [cellWf, ha, hv]
    · exact hf d hd

end Sys2Proof.Machine
end

