-- ==== Sys2Proof/Laws/State.lean ====
section
/-! SUPPORT. What each single-field update of State does to each field: one lemma per field per update. -/

namespace Sys2Proof.Machine

@[simp] theorem State.setA_a (s : State) (v : Byte) : (s.setA v).a = v := rfl
@[simp] theorem State.setA_x (s : State) (v : Byte) : (s.setA v).x = s.x := rfl
@[simp] theorem State.setA_y (s : State) (v : Byte) : (s.setA v).y = s.y := rfl
@[simp] theorem State.setA_sp (s : State) (v : Byte) : (s.setA v).sp = s.sp := rfl
@[simp] theorem State.setA_pc (s : State) (v : Byte) : (s.setA v).pc = s.pc := rfl
@[simp] theorem State.setA_p (s : State) (v : Byte) : (s.setA v).p = s.p := rfl
@[simp] theorem State.setA_cycles (s : State) (v : Byte) : (s.setA v).cycles = s.cycles := rfl
@[simp] theorem State.setA_stallCycles (s : State) (v : Byte) : (s.setA v).stallCycles = s.stallCycles := rfl
@[simp] theorem State.setA_nmiPending (s : State) (v : Byte) : (s.setA v).nmiPending = s.nmiPending := rfl
@[simp] theorem State.setA_irqPending (s : State) (v : Byte) : (s.setA v).irqPending = s.irqPending := rfl
@[simp] theorem State.setA_nmiRunning (s : State) (v : Byte) : (s.setA v).nmiRunning = s.nmiRunning := rfl
@[simp] theorem State.setA_irqRunning (s : State) (v : Byte) : (s.setA v).irqRunning = s.irqRunning := rfl
@[simp] theorem State.setA_nmiAddress (s : State) (v : Byte) : (s.setA v).nmiAddress = s.nmiAddress := rfl
@[simp] theorem State.setA_irqAddress (s : State) (v : Byte) : (s.setA v).irqAddress = s.irqAddress := rfl
@[simp] theorem State.setA_fault (s : State) (v : Byte) : (s.setA v).fault = s.fault := rfl
@[simp] theorem State.setA_mem (s : State) (v : Byte) : (s.setA v).mem = s.mem := rfl
@[simp] theorem State.setA_params (s : State) (v : Byte) : (s.setA v).params = s.params := rfl
@[simp] theorem State.setA_draws (s : State) (v : Byte) : (s.setA v).draws = s.draws := rfl
@[simp] theorem State.setA_portCalls (s : State) (v : Byte) : (s.setA v).portCalls = s.portCalls := rfl
@[simp] theorem State.setX_a (s : State) (v : Byte) : (s.setX v).a = s.a := rfl
@[simp] theorem State.setX_x (s : State) (v : Byte) : (s.setX v).x = v := rfl
@[simp] theorem State.setX_y (s : State) (v : Byte) : (s.setX v).y = s.y := rfl
@[simp] theorem State.setX_sp (s : State) (v : Byte) : (s.setX v).sp = s.sp := rfl
@[simp] theorem State.setX_pc (s : State) (v : Byte) : (s.setX v).pc = s.pc := rfl
@[simp] theorem State.setX_p (s : State) (v : Byte) : (s.setX v).p = s.p := rfl
@[simp] theorem State.setX_cycles (s : State) (v : Byte) : (s.setX v).cycles = s.cycles := rfl
@[simp] theorem State.setX_stallCycles (s : State) (v : Byte) : (s.setX v).stallCycles = s.stallCycles := rfl
@[simp] theorem State.setX_nmiPending (s : State) (v : Byte) : (s.setX v).nmiPending = s.nmiPending := rfl
@[simp] theorem State.setX_irqPending (s : State) (v : Byte) : (s.setX v).irqPending = s.irqPending := rfl
@[simp] theorem State.setX_nmiRunning (s : State) (v : Byte) : (s.setX v).nmiRunning = s.nmiRunning := rfl
@[simp] theorem State.setX_irqRunning (s : State) (v : Byte) : (s.setX v).irqRunning = s.irqRunning := rfl
@[simp] theorem State.setX_nmiAddress (s : State) (v : Byte) : (s.setX v).nmiAddress = s.nmiAddress := rfl
@[simp] theorem State.setX_irqAddress (s : State) (v : Byte) : (s.setX v).irqAddress = s.irqAddress := rfl
@[simp] theorem State.setX_fault (s : State) (v : Byte) : (s.setX v).fault = s.fault := rfl
@[simp] theorem State.setX_mem (s : State) (v : Byte) : (s.setX v).mem = s.mem := rfl
@[simp] theorem State.setX_params (s : State) (v : Byte) : (s.setX v).params = s.params := rfl
@[simp] theorem State.setX_draws (s : State) (v : Byte) : (s.setX v).draws = s.draws := rfl
@[simp] theorem State.setX_portCalls (s : State) (v : Byte) : (s.setX v).portCalls = s.portCalls := rfl
@[simp] theorem State.setY_a (s : State) (v : Byte) : (s.setY v).a = s.a := rfl
@[simp] theorem State.setY_x (s : State) (v : Byte) : (s.setY v).x = s.x := rfl
@[simp] theorem State.setY_y (s : State) (v : Byte) : (s.setY v).y = v := rfl
@[simp] theorem State.setY_sp (s : State) (v : Byte) : (s.setY v).sp = s.sp := rfl
@[simp] theorem State.setY_pc (s : State) (v : Byte) : (s.setY v).pc = s.pc := rfl
@[simp] theorem State.setY_p (s : State) (v : Byte) : (s.setY v).p = s.p := rfl
@[simp] theorem State.setY_cycles (s : State) (v : Byte) : (s.setY v).cycles = s.cycles := rfl
@[simp] theorem State.setY_stallCycles (s : State) (v : Byte) : (s.setY v).stallCycles = s.stallCycles := rfl
@[simp] theorem State.setY_nmiPending (s : State) (v : Byte) : (s.setY v).nmiPending = s.nmiPending := rfl
@[simp] theorem State.setY_irqPending (s : State) (v : Byte) : (s.setY v).irqPending = s.irqPending := rfl
@[simp] theorem State.setY_nmiRunning (s : State) (v : Byte) : (s.setY v).nmiRunning = s.nmiRunning := rfl
@[simp] theorem State.setY_irqRunning (s : State) (v : Byte) : (s.setY v).irqRunning = s.irqRunning := rfl
@[simp] theorem State.setY_nmiAddress (s : State) (v : Byte) : (s.setY v).nmiAddress = s.nmiAddress := rfl
@[simp] theorem State.setY_irqAddress (s : State) (v : Byte) : (s.setY v).irqAddress = s.irqAddress := rfl
@[simp] theorem State.setY_fault (s : State) (v : Byte) : (s.setY v).fault = s.fault := rfl
@[simp] theorem State.setY_mem (s : State) (v : Byte) : (s.setY v).mem = s.mem := rfl
@[simp] theorem State.setY_params (s : State) (v : Byte) : (s.setY v).params = s.params := rfl
@[simp] theorem State.setY_draws (s : State) (v : Byte) : (s.setY v).draws = s.draws := rfl
@[simp] theorem State.setY_portCalls (s : State) (v : Byte) : (s.setY v).portCalls = s.portCalls := rfl
@[simp] theorem State.setSp_a (s : State) (v : Byte) : (s.setSp v).a = s.a := rfl
@[simp] theorem State.setSp_x (s : State) (v : Byte) : (s.setSp v).x = s.x := rfl
@[simp] theorem State.setSp_y (s : State) (v : Byte) : (s.setSp v).y = s.y := rfl
@[simp] theorem State.setSp_sp (s : State) (v : Byte) : (s.setSp v).sp = v := rfl
@[simp] theorem State.setSp_pc (s : State) (v : Byte) : (s.setSp v).pc = s.pc := rfl
@[simp] theorem State.setSp_p (s : State) (v : Byte) : (s.setSp v).p = s.p := rfl
@[simp] theorem State.setSp_cycles (s : State) (v : Byte) : (s.setSp v).cycles = s.cycles := rfl
@[simp] theorem State.setSp_stallCycles (s : State) (v : Byte) : (s.setSp v).stallCycles = s.stallCycles := rfl
@[simp] theorem State.setSp_nmiPending (s : State) (v : Byte) : (s.setSp v).nmiPending = s.nmiPending := rfl
@[simp] theorem State.setSp_irqPending (s : State) (v : Byte) : (s.setSp v).irqPending = s.irqPending := rfl
@[simp] theorem State.setSp_nmiRunning (s : State) (v : Byte) : (s.setSp v).nmiRunning = s.nmiRunning := rfl
@[simp] theorem State.setSp_irqRunning (s : State) (v : Byte) : (s.setSp v).irqRunning = s.irqRunning := rfl
@[simp] theorem State.setSp_nmiAddress (s : State) (v : Byte) : (s.setSp v).nmiAddress = s.nmiAddress := rfl
@[simp] theorem State.setSp_irqAddress (s : State) (v : Byte) : (s.setSp v).irqAddress = s.irqAddress := rfl
@[simp] theorem State.setSp_fault (s : State) (v : Byte) : (s.setSp v).fault = s.fault := rfl
@[simp] theorem State.setSp_mem (s : State) (v : Byte) : (s.setSp v).mem = s.mem := rfl
@[simp] theorem State.setSp_params (s : State) (v : Byte) : (s.setSp v).params = s.params := rfl
@[simp] theorem State.setSp_draws (s : State) (v : Byte) : (s.setSp v).draws = s.draws := rfl
@[simp] theorem State.setSp_portCalls (s : State) (v : Byte) : (s.setSp v).portCalls = s.portCalls := rfl
@[simp] theorem State.setPc_a (s : State) (v : Word) : (s.setPc v).a = s.a := rfl
@[simp] theorem State.setPc_x (s : State) (v : Word) : (s.setPc v).x = s.x := rfl
@[simp] theorem State.setPc_y (s : State) (v : Word) : (s.setPc v).y = s.y := rfl
@[simp] theorem State.setPc_sp (s : State) (v : Word) : (s.setPc v).sp = s.sp := rfl
@[simp] theorem State.setPc_pc (s : State) (v : Word) : (s.setPc v).pc = v := rfl
@[simp] theorem State.setPc_p (s : State) (v : Word) : (s.setPc v).p = s.p := rfl
@[simp] theorem State.setPc_cycles (s : State) (v : Word) : (s.setPc v).cycles = s.cycles := rfl
@[simp] theorem State.setPc_stallCycles (s : State) (v : Word) : (s.setPc v).stallCycles = s.stallCycles := rfl
@[simp] theorem State.setPc_nmiPending (s : State) (v : Word) : (s.setPc v).nmiPending = s.nmiPending := rfl
@[simp] theorem State.setPc_irqPending (s : State) (v : Word) : (s.setPc v).irqPending = s.irqPending := rfl
@[simp] theorem State.setPc_nmiRunning (s : State) (v : Word) : (s.setPc v).nmiRunning = s.nmiRunning := rfl
@[simp] theorem State.setPc_irqRunning (s : State) (v : Word) : (s.setPc v).irqRunning = s.irqRunning := rfl
@[simp] theorem State.setPc_nmiAddress (s : State) (v : Word) : (s.setPc v).nmiAddress = s.nmiAddress := rfl
@[simp] theorem State.setPc_irqAddress (s : State) (v : Word) : (s.setPc v).irqAddress = s.irqAddress := rfl
@[simp] theorem State.setPc_fault (s : State) (v : Word) : (s.setPc v).fault = s.fault := rfl
@[simp] theorem State.setPc_mem (s : State) (v : Word) : (s.setPc v).mem = s.mem := rfl
@[simp] theorem State.setPc_params (s : State) (v : Word) : (s.setPc v).params = s.params := rfl
@[simp] theorem State.setPc_draws (s : State) (v : Word) : (s.setPc v).draws = s.draws := rfl
@[simp] theorem State.setPc_portCalls (s : State) (v : Word) : (s.setPc v).portCalls = s.portCalls := rfl
@[simp] theorem State.setP_a (s : State) (v : Flags) : (s.setP v).a = s.a := rfl
@[simp] theorem State.setP_x (s : State) (v : Flags) : (s.setP v).x = s.x := rfl
@[simp] theorem State.setP_y (s : State) (v : Flags) : (s.setP v).y = s.y := rfl
@[simp] theorem State.setP_sp (s : State) (v : Flags) : (s.setP v).sp = s.sp := rfl
@[simp] theorem State.setP_pc (s : State) (v : Flags) : (s.setP v).pc = s.pc := rfl
@[simp] theorem State.setP_p (s : State) (v : Flags) : (s.setP v).p = v := rfl
@[simp] theorem State.setP_cycles (s : State) (v : Flags) : (s.setP v).cycles = s.cycles := rfl
@[simp] theorem State.setP_stallCycles (s : State) (v : Flags) : (s.setP v).stallCycles = s.stallCycles := rfl
@[simp] theorem State.setP_nmiPending (s : State) (v : Flags) : (s.setP v).nmiPending = s.nmiPending := rfl
@[simp] theorem State.setP_irqPending (s : State) (v : Flags) : (s.setP v).irqPending = s.irqPending := rfl
@[simp] theorem State.setP_nmiRunning (s : State) (v : Flags) : (s.setP v).nmiRunning = s.nmiRunning := rfl
@[simp] theorem State.setP_irqRunning (s : State) (v : Flags) : (s.setP v).irqRunning = s.irqRunning := rfl
@[simp] theorem State.setP_nmiAddress (s : State) (v : Flags) : (s.setP v).nmiAddress = s.nmiAddress := rfl
@[simp] theorem State.setP_irqAddress (s : State) (v : Flags) : (s.setP v).irqAddress = s.irqAddress := rfl
@[simp] theorem State.setP_fault (s : State) (v : Flags) : (s.setP v).fault = s.fault := rfl
@[simp] theorem State.setP_mem (s : State) (v : Flags) : (s.setP v).mem = s.mem := rfl
@[simp] theorem State.setP_params (s : State) (v : Flags) : (s.setP v).params = s.params := rfl
@[simp] theorem State.setP_draws (s : State) (v : Flags) : (s.setP v).draws = s.draws := rfl
@[simp] theorem State.setP_portCalls (s : State) (v : Flags) : (s.setP v).portCalls = s.portCalls := rfl
@[simp] theorem State.setCycles_a (s : State) (v : Count) : (s.setCycles v).a = s.a := rfl
@[simp] theorem State.setCycles_x (s : State) (v : Count) : (s.setCycles v).x = s.x := rfl
@[simp] theorem State.setCycles_y (s : State) (v : Count) : (s.setCycles v).y = s.y := rfl
@[simp] theorem State.setCycles_sp (s : State) (v : Count) : (s.setCycles v).sp = s.sp := rfl
@[simp] theorem State.setCycles_pc (s : State) (v : Count) : (s.setCycles v).pc = s.pc := rfl
@[simp] theorem State.setCycles_p (s : State) (v : Count) : (s.setCycles v).p = s.p := rfl
@[simp] theorem State.setCycles_cycles (s : State) (v : Count) : (s.setCycles v).cycles = v := rfl
@[simp] theorem State.setCycles_stallCycles (s : State) (v : Count) : (s.setCycles v).stallCycles = s.stallCycles := rfl
@[simp] theorem State.setCycles_nmiPending (s : State) (v : Count) : (s.setCycles v).nmiPending = s.nmiPending := rfl
@[simp] theorem State.setCycles_irqPending (s : State) (v : Count) : (s.setCycles v).irqPending = s.irqPending := rfl
@[simp] theorem State.setCycles_nmiRunning (s : State) (v : Count) : (s.setCycles v).nmiRunning = s.nmiRunning := rfl
@[simp] theorem State.setCycles_irqRunning (s : State) (v : Count) : (s.setCycles v).irqRunning = s.irqRunning := rfl
@[simp] theorem State.setCycles_nmiAddress (s : State) (v : Count) : (s.setCycles v).nmiAddress = s.nmiAddress := rfl
@[simp] theorem State.setCycles_irqAddress (s : State) (v : Count) : (s.setCycles v).irqAddress = s.irqAddress := rfl
@[simp] theorem State.setCycles_fault (s : State) (v : Count) : (s.setCycles v).fault = s.fault := rfl
@[simp] theorem State.setCycles_mem (s : State) (v : Count) : (s.setCycles v).mem = s.mem := rfl
@[simp] theorem State.setCycles_params (s : State) (v : Count) : (s.setCycles v).params = s.params := rfl
@[simp] theorem State.setCycles_draws (s : State) (v : Count) : (s.setCycles v).draws = s.draws := rfl
@[simp] theorem State.setCycles_portCalls (s : State) (v : Count) : (s.setCycles v).portCalls = s.portCalls := rfl
@[simp] theorem State.setStallCycles_a (s : State) (v : Count) : (s.setStallCycles v).a = s.a := rfl
@[simp] theorem State.setStallCycles_x (s : State) (v : Count) : (s.setStallCycles v).x = s.x := rfl
@[simp] theorem State.setStallCycles_y (s : State) (v : Count) : (s.setStallCycles v).y = s.y := rfl
@[simp] theorem State.setStallCycles_sp (s : State) (v : Count) : (s.setStallCycles v).sp = s.sp := rfl
@[simp] theorem State.setStallCycles_pc (s : State) (v : Count) : (s.setStallCycles v).pc = s.pc := rfl
@[simp] theorem State.setStallCycles_p (s : State) (v : Count) : (s.setStallCycles v).p = s.p := rfl
@[simp] theorem State.setStallCycles_cycles (s : State) (v : Count) : (s.setStallCycles v).cycles = s.cycles := rfl
@[simp] theorem State.setStallCycles_stallCycles (s : State) (v : Count) : (s.setStallCycles v).stallCycles = v := rfl
@[simp] theorem State.setStallCycles_nmiPending (s : State) (v : Count) : (s.setStallCycles v).nmiPending = s.nmiPending := rfl
@[simp] theorem State.setStallCycles_irqPending (s : State) (v : Count) : (s.setStallCycles v).irqPending = s.irqPending := rfl
@[simp] theorem State.setStallCycles_nmiRunning (s : State) (v : Count) : (s.setStallCycles v).nmiRunning = s.nmiRunning := rfl
@[simp] theorem State.setStallCycles_irqRunning (s : State) (v : Count) : (s.setStallCycles v).irqRunning = s.irqRunning := rfl
@[simp] theorem State.setStallCycles_nmiAddress (s : State) (v : Count) : (s.setStallCycles v).nmiAddress = s.nmiAddress := rfl
@[simp] theorem State.setStallCycles_irqAddress (s : State) (v : Count) : (s.setStallCycles v).irqAddress = s.irqAddress := rfl
@[simp] theorem State.setStallCycles_fault (s : State) (v : Count) : (s.setStallCycles v).fault = s.fault := rfl
@[simp] theorem State.setStallCycles_mem (s : State) (v : Count) : (s.setStallCycles v).mem = s.mem := rfl
@[simp] theorem State.setStallCycles_params (s : State) (v : Count) : (s.setStallCycles v).params = s.params := rfl
@[simp] theorem State.setStallCycles_draws (s : State) (v : Count) : (s.setStallCycles v).draws = s.draws := rfl
@[simp] theorem State.setStallCycles_portCalls (s : State) (v : Count) : (s.setStallCycles v).portCalls = s.portCalls := rfl
@[simp] theorem State.setNmiPending_a (s : State) (v : Bool) : (s.setNmiPending v).a = s.a := rfl
@[simp] theorem State.setNmiPending_x (s : State) (v : Bool) : (s.setNmiPending v).x = s.x := rfl
@[simp] theorem State.setNmiPending_y (s : State) (v : Bool) : (s.setNmiPending v).y = s.y := rfl
@[simp] theorem State.setNmiPending_sp (s : State) (v : Bool) : (s.setNmiPending v).sp = s.sp := rfl
@[simp] theorem State.setNmiPending_pc (s : State) (v : Bool) : (s.setNmiPending v).pc = s.pc := rfl
@[simp] theorem State.setNmiPending_p (s : State) (v : Bool) : (s.setNmiPending v).p = s.p := rfl
@[simp] theorem State.setNmiPending_cycles (s : State) (v : Bool) : (s.setNmiPending v).cycles = s.cycles := rfl
@[simp] theorem State.setNmiPending_stallCycles (s : State) (v : Bool) : (s.setNmiPending v).stallCycles = s.stallCycles := rfl
@[simp] theorem State.setNmiPending_nmiPending (s : State) (v : Bool) : (s.setNmiPending v).nmiPending = v := rfl
@[simp] theorem State.setNmiPending_irqPending (s : State) (v : Bool) : (s.setNmiPending v).irqPending = s.irqPending := rfl
@[simp] theorem State.setNmiPending_nmiRunning (s : State) (v : Bool) : (s.setNmiPending v).nmiRunning = s.nmiRunning := rfl
@[simp] theorem State.setNmiPending_irqRunning (s : State) (v : Bool) : (s.setNmiPending v).irqRunning = s.irqRunning := rfl
@[simp] theorem State.setNmiPending_nmiAddress (s : State) (v : Bool) : (s.setNmiPending v).nmiAddress = s.nmiAddress := rfl
@[simp] theorem State.setNmiPending_irqAddress (s : State) (v : Bool) : (s.setNmiPending v).irqAddress = s.irqAddress := rfl
@[simp] theorem State.setNmiPending_fault (s : State) (v : Bool) : (s.setNmiPending v).fault = s.fault := rfl
@[simp] theorem State.setNmiPending_mem (s : State) (v : Bool) : (s.setNmiPending v).mem = s.mem := rfl
@[simp] theorem State.setNmiPending_params (s : State) (v : Bool) : (s.setNmiPending v).params = s.params := rfl
@[simp] theorem State.setNmiPending_draws (s : State) (v : Bool) : (s.setNmiPending v).draws = s.draws := rfl
@[simp] theorem State.setNmiPending_portCalls (s : State) (v : Bool) : (s.setNmiPending v).portCalls = s.portCalls := rfl
@[simp] theorem State.setIrqPending_a (s : State) (v : Bool) : (s.setIrqPending v).a = s.a := rfl
@[simp] theorem State.setIrqPending_x (s : State) (v : Bool) : (s.setIrqPending v).x = s.x := rfl
@[simp] theorem State.setIrqPending_y (s : State) (v : Bool) : (s.setIrqPending v).y = s.y := rfl
@[simp] theorem State.setIrqPending_sp (s : State) (v : Bool) : (s.setIrqPending v).sp = s.sp := rfl
@[simp] theorem State.setIrqPending_pc (s : State) (v : Bool) : (s.setIrqPending v).pc = s.pc := rfl
@[simp] theorem State.setIrqPending_p (s : State) (v : Bool) : (s.setIrqPending v).p = s.p := rfl
@[simp] theorem State.setIrqPending_cycles (s : State) (v : Bool) : (s.setIrqPending v).cycles = s.cycles := rfl
@[simp] theorem State.setIrqPending_stallCycles (s : State) (v : Bool) : (s.setIrqPending v).stallCycles = s.stallCycles := rfl
@[simp] theorem State.setIrqPending_nmiPending (s : State) (v : Bool) : (s.setIrqPending v).nmiPending = s.nmiPending := rfl
@[simp] theorem State.setIrqPending_irqPending (s : State) (v : Bool) : (s.setIrqPending v).irqPending = v := rfl
@[simp] theorem State.setIrqPending_nmiRunning (s : State) (v : Bool) : (s.setIrqPending v).nmiRunning = s.nmiRunning := rfl
@[simp] theorem State.setIrqPending_irqRunning (s : State) (v : Bool) : (s.setIrqPending v).irqRunning = s.irqRunning := rfl
@[simp] theorem State.setIrqPending_nmiAddress (s : State) (v : Bool) : (s.setIrqPending v).nmiAddress = s.nmiAddress := rfl
@[simp] theorem State.setIrqPending_irqAddress (s : State) (v : Bool) : (s.setIrqPending v).irqAddress = s.irqAddress := rfl
@[simp] theorem State.setIrqPending_fault (s : State) (v : Bool) : (s.setIrqPending v).fault = s.fault := rfl
@[simp] theorem State.setIrqPending_mem (s : State) (v : Bool) : (s.setIrqPending v).mem = s.mem := rfl
@[simp] theorem State.setIrqPending_params (s : State) (v : Bool) : (s.setIrqPending v).params = s.params := rfl
@[simp] theorem State.setIrqPending_draws (s : State) (v : Bool) : (s.setIrqPending v).draws = s.draws := rfl
@[simp] theorem State.setIrqPending_portCalls (s : State) (v : Bool) : (s.setIrqPending v).portCalls = s.portCalls := rfl
@[simp] theorem State.setNmiRunning_a (s : State) (v : Bool) : (s.setNmiRunning v).a = s.a := rfl
@[simp] theorem State.setNmiRunning_x (s : State) (v : Bool) : (s.setNmiRunning v).x = s.x := rfl
@[simp] theorem State.setNmiRunning_y (s : State) (v : Bool) : (s.setNmiRunning v).y = s.y := rfl
@[simp] theorem State.setNmiRunning_sp (s : State) (v : Bool) : (s.setNmiRunning v).sp = s.sp := rfl
@[simp] theorem State.setNmiRunning_pc (s : State) (v : Bool) : (s.setNmiRunning v).pc = s.pc := rfl
@[simp] theorem State.setNmiRunning_p (s : State) (v : Bool) : (s.setNmiRunning v).p = s.p := rfl
@[simp] theorem State.setNmiRunning_cycles (s : State) (v : Bool) : (s.setNmiRunning v).cycles = s.cycles := rfl
@[simp] theorem State.setNmiRunning_stallCycles (s : State) (v : Bool) : (s.setNmiRunning v).stallCycles = s.stallCycles := rfl
@[simp] theorem State.setNmiRunning_nmiPending (s : State) (v : Bool) : (s.setNmiRunning v).nmiPending = s.nmiPending := rfl
@[simp] theorem State.setNmiRunning_irqPending (s : State) (v : Bool) : (s.setNmiRunning v).irqPending = s.irqPending := rfl
@[simp] theorem State.setNmiRunning_nmiRunning (s : State) (v : Bool) : (s.setNmiRunning v).nmiRunning = v := rfl
@[simp] theorem State.setNmiRunning_irqRunning (s : State) (v : Bool) : (s.setNmiRunning v).irqRunning = s.irqRunning := rfl
@[simp] theorem State.setNmiRunning_nmiAddress (s : State) (v : Bool) : (s.setNmiRunning v).nmiAddress = s.nmiAddress := rfl
@[simp] theorem State.setNmiRunning_irqAddress (s : State) (v : Bool) : (s.setNmiRunning v).irqAddress = s.irqAddress := rfl
@[simp] theorem State.setNmiRunning_fault (s : State) (v : Bool) : (s.setNmiRunning v).fault = s.fault := rfl
@[simp] theorem State.setNmiRunning_mem (s : State) (v : Bool) : (s.setNmiRunning v).mem = s.mem := rfl
@[simp] theorem State.setNmiRunning_params (s : State) (v : Bool) : (s.setNmiRunning v).params = s.params := rfl
@[simp] theorem State.setNmiRunning_draws (s : State) (v : Bool) : (s.setNmiRunning v).draws = s.draws := rfl
@[simp] theorem State.setNmiRunning_portCalls (s : State) (v : Bool) : (s.setNmiRunning v).portCalls = s.portCalls := rfl
@[simp] theorem State.setIrqRunning_a (s : State) (v : Bool) : (s.setIrqRunning v).a = s.a := rfl
@[simp] theorem State.setIrqRunning_x (s : State) (v : Bool) : (s.setIrqRunning v).x = s.x := rfl
@[simp] theorem State.setIrqRunning_y (s : State) (v : Bool) : (s.setIrqRunning v).y = s.y := rfl
@[simp] theorem State.setIrqRunning_sp (s : State) (v : Bool) : (s.setIrqRunning v).sp = s.sp := rfl
@[simp] theorem State.setIrqRunning_pc (s : State) (v : Bool) : (s.setIrqRunning v).pc = s.pc := rfl
@[simp] theorem State.setIrqRunning_p (s : State) (v : Bool) : (s.setIrqRunning v).p = s.p := rfl
@[simp] theorem State.setIrqRunning_cycles (s : State) (v : Bool) : (s.setIrqRunning v).cycles = s.cycles := rfl
@[simp] theorem State.setIrqRunning_stallCycles (s : State) (v : Bool) : (s.setIrqRunning v).stallCycles = s.stallCycles := rfl
@[simp] theorem State.setIrqRunning_nmiPending (s : State) (v : Bool) : (s.setIrqRunning v).nmiPending = s.nmiPending := rfl
@[simp] theorem State.setIrqRunning_irqPending (s : State) (v : Bool) : (s.setIrqRunning v).irqPending = s.irqPending := rfl
@[simp] theorem State.setIrqRunning_nmiRunning (s : State) (v : Bool) : (s.setIrqRunning v).nmiRunning = s.nmiRunning := rfl
@[simp] theorem State.setIrqRunning_irqRunning (s : State) (v : Bool) : (s.setIrqRunning v).irqRunning = v := rfl
@[simp] theorem State.setIrqRunning_nmiAddress (s : State) (v : Bool) : (s.setIrqRunning v).nmiAddress = s.nmiAddress := rfl
@[simp] theorem State.setIrqRunning_irqAddress (s : State) (v : Bool) : (s.setIrqRunning v).irqAddress = s.irqAddress := rfl
@[simp] theorem State.setIrqRunning_fault (s : State) (v : Bool) : (s.setIrqRunning v).fault = s.fault := rfl
@[simp] theorem State.setIrqRunning_mem (s : State) (v : Bool) : (s.setIrqRunning v).mem = s.mem := rfl
@[simp] theorem State.setIrqRunning_params (s : State) (v : Bool) : (s.setIrqRunning v).params = s.params := rfl
@[simp] theorem State.setIrqRunning_draws (s : State) (v : Bool) : (s.setIrqRunning v).draws = s.draws := rfl
@[simp] theorem State.setIrqRunning_portCalls (s : State) (v : Bool) : (s.setIrqRunning v).portCalls = s.portCalls := rfl
@[simp] theorem State.setNmiAddress_a (s : State) (v : Word) : (s.setNmiAddress v).a = s.a := rfl
@[simp] theorem State.setNmiAddress_x (s : State) (v : Word) : (s.setNmiAddress v).x = s.x := rfl
@[simp] theorem State.setNmiAddress_y (s : State) (v : Word) : (s.setNmiAddress v).y = s.y := rfl
@[simp] theorem State.setNmiAddress_sp (s : State) (v : Word) : (s.setNmiAddress v).sp = s.sp := rfl
@[simp] theorem State.setNmiAddress_pc (s : State) (v : Word) : (s.setNmiAddress v).pc = s.pc := rfl
@[simp] theorem State.setNmiAddress_p (s : State) (v : Word) : (s.setNmiAddress v).p = s.p := rfl
@[simp] theorem State.setNmiAddress_cycles (s : State) (v : Word) : (s.setNmiAddress v).cycles = s.cycles := rfl
@[simp] theorem State.setNmiAddress_stallCycles (s : State) (v : Word) : (s.setNmiAddress v).stallCycles = s.stallCycles := rfl
@[simp] theorem State.setNmiAddress_nmiPending (s : State) (v : Word) : (s.setNmiAddress v).nmiPending = s.nmiPending := rfl
@[simp] theorem State.setNmiAddress_irqPending (s : State) (v : Word) : (s.setNmiAddress v).irqPending = s.irqPending := rfl
@[simp] theorem State.setNmiAddress_nmiRunning (s : State) (v : Word) : (s.setNmiAddress v).nmiRunning = s.nmiRunning := rfl
@[simp] theorem State.setNmiAddress_irqRunning (s : State) (v : Word) : (s.setNmiAddress v).irqRunning = s.irqRunning := rfl
@[simp] theorem State.setNmiAddress_nmiAddress (s : State) (v : Word) : (s.setNmiAddress v).nmiAddress = v := rfl
@[simp] theorem State.setNmiAddress_irqAddress (s : State) (v : Word) : (s.setNmiAddress v).irqAddress = s.irqAddress := rfl
@[simp] theorem State.setNmiAddress_fault (s : State) (v : Word) : (s.setNmiAddress v).fault = s.fault := rfl
@[simp] theorem State.setNmiAddress_mem (s : State) (v : Word) : (s.setNmiAddress v).mem = s.mem := rfl
@[simp] theorem State.setNmiAddress_params (s : State) (v : Word) : (s.setNmiAddress v).params = s.params := rfl
@[simp] theorem State.setNmiAddress_draws (s : State) (v : Word) : (s.setNmiAddress v).draws = s.draws := rfl
@[simp] theorem State.setNmiAddress_portCalls (s : State) (v : Word) : (s.setNmiAddress v).portCalls = s.portCalls := rfl
@[simp] theorem State.setIrqAddress_a (s : State) (v : Word) : (s.setIrqAddress v).a = s.a := rfl
@[simp] theorem State.setIrqAddress_x (s : State) (v : Word) : (s.setIrqAddress v).x = s.x := rfl
@[simp] theorem State.setIrqAddress_y (s : State) (v : Word) : (s.setIrqAddress v).y = s.y := rfl
@[simp] theorem State.setIrqAddress_sp (s : State) (v : Word) : (s.setIrqAddress v).sp = s.sp := rfl
@[simp] theorem State.setIrqAddress_pc (s : State) (v : Word) : (s.setIrqAddress v).pc = s.pc := rfl
@[simp] theorem State.setIrqAddress_p (s : State) (v : Word) : (s.setIrqAddress v).p = s.p := rfl
@[simp] theorem State.setIrqAddress_cycles (s : State) (v : Word) : (s.setIrqAddress v).cycles = s.cycles := rfl
@[simp] theorem State.setIrqAddress_stallCycles (s : State) (v : Word) : (s.setIrqAddress v).stallCycles = s.stallCycles := rfl
@[simp] theorem State.setIrqAddress_nmiPending (s : State) (v : Word) : (s.setIrqAddress v).nmiPending = s.nmiPending := rfl
@[simp] theorem State.setIrqAddress_irqPending (s : State) (v : Word) : (s.setIrqAddress v).irqPending = s.irqPending := rfl
@[simp] theorem State.setIrqAddress_nmiRunning (s : State) (v : Word) : (s.setIrqAddress v).nmiRunning = s.nmiRunning := rfl
@[simp] theorem State.setIrqAddress_irqRunning (s : State) (v : Word) : (s.setIrqAddress v).irqRunning = s.irqRunning := rfl
@[simp] theorem State.setIrqAddress_nmiAddress (s : State) (v : Word) : (s.setIrqAddress v).nmiAddress = s.nmiAddress := rfl
@[simp] theorem State.setIrqAddress_irqAddress (s : State) (v : Word) : (s.setIrqAddress v).irqAddress = v := rfl
@[simp] theorem State.setIrqAddress_fault (s : State) (v : Word) : (s.setIrqAddress v).fault = s.fault := rfl
@[simp] theorem State.setIrqAddress_mem (s : State) (v : Word) : (s.setIrqAddress v).mem = s.mem := rfl
@[simp] theorem State.setIrqAddress_params (s : State) (v : Word) : (s.setIrqAddress v).params = s.params := rfl
@[simp] theorem State.setIrqAddress_draws (s : State) (v : Word) : (s.setIrqAddress v).draws = s.draws := rfl
@[simp] theorem State.setIrqAddress_portCalls (s : State) (v : Word) : (s.setIrqAddress v).portCalls = s.portCalls := rfl
@[simp] theorem State.setFault_a (s : State) (v : Option FatalError) : (s.setFault v).a = s.a := rfl
@[simp] theorem State.setFault_x (s : State) (v : Option FatalError) : (s.setFault v).x = s.x := rfl
@[simp] theorem State.setFault_y (s : State) (v : Option FatalError) : (s.setFault v).y = s.y := rfl
@[simp] theorem State.setFault_sp (s : State) (v : Option FatalError) : (s.setFault v).sp = s.sp := rfl
@[simp] theorem State.setFault_pc (s : State) (v : Option FatalError) : (s.setFault v).pc = s.pc := rfl
@[simp] theorem State.setFault_p (s : State) (v : Option FatalError) : (s.setFault v).p = s.p := rfl
@[simp] theorem State.setFault_cycles (s : State) (v : Option FatalError) : (s.setFault v).cycles = s.cycles := rfl
@[simp] theorem State.setFault_stallCycles (s : State) (v : Option FatalError) : (s.setFault v).stallCycles = s.stallCycles := rfl
@[simp] theorem State.setFault_nmiPending (s : State) (v : Option FatalError) : (s.setFault v).nmiPending = s.nmiPending := rfl
@[simp] theorem State.setFault_irqPending (s : State) (v : Option FatalError) : (s.setFault v).irqPending = s.irqPending := rfl
@[simp] theorem State.setFault_nmiRunning (s : State) (v : Option FatalError) : (s.setFault v).nmiRunning = s.nmiRunning := rfl
@[simp] theorem State.setFault_irqRunning (s : State) (v : Option FatalError) : (s.setFault v).irqRunning = s.irqRunning := rfl
@[simp] theorem State.setFault_nmiAddress (s : State) (v : Option FatalError) : (s.setFault v).nmiAddress = s.nmiAddress := rfl
@[simp] theorem State.setFault_irqAddress (s : State) (v : Option FatalError) : (s.setFault v).irqAddress = s.irqAddress := rfl
@[simp] theorem State.setFault_fault (s : State) (v : Option FatalError) : (s.setFault v).fault = v := rfl
@[simp] theorem State.setFault_mem (s : State) (v : Option FatalError) : (s.setFault v).mem = s.mem := rfl
@[simp] theorem State.setFault_params (s : State) (v : Option FatalError) : (s.setFault v).params = s.params := rfl
@[simp] theorem State.setFault_draws (s : State) (v : Option FatalError) : (s.setFault v).draws = s.draws := rfl
@[simp] theorem State.setFault_portCalls (s : State) (v : Option FatalError) : (s.setFault v).portCalls = s.portCalls := rfl
@[simp] theorem State.setMem_a (s : State) (v : Memory) : (s.setMem v).a = s.a := rfl
@[simp] theorem State.setMem_x (s : State) (v : Memory) : (s.setMem v).x = s.x := rfl
@[simp] theorem State.setMem_y (s : State) (v : Memory) : (s.setMem v).y = s.y := rfl
@[simp] theorem State.setMem_sp (s : State) (v : Memory) : (s.setMem v).sp = s.sp := rfl
@[simp] theorem State.setMem_pc (s : State) (v : Memory) : (s.setMem v).pc = s.pc := rfl
@[simp] theorem State.setMem_p (s : State) (v : Memory) : (s.setMem v).p = s.p := rfl
@[simp] theorem State.setMem_cycles (s : State) (v : Memory) : (s.setMem v).cycles = s.cycles := rfl
@[simp] theorem State.setMem_stallCycles (s : State) (v : Memory) : (s.setMem v).stallCycles = s.stallCycles := rfl
@[simp] theorem State.setMem_nmiPending (s : State) (v : Memory) : (s.setMem v).nmiPending = s.nmiPending := rfl
@[simp] theorem State.setMem_irqPending (s : State) (v : Memory) : (s.setMem v).irqPending = s.irqPending := rfl
@[simp] theorem State.setMem_nmiRunning (s : State) (v : Memory) : (s.setMem v).nmiRunning = s.nmiRunning := rfl
@[simp] theorem State.setMem_irqRunning (s : State) (v : Memory) : (s.setMem v).irqRunning = s.irqRunning := rfl
@[simp] theorem State.setMem_nmiAddress (s : State) (v : Memory) : (s.setMem v).nmiAddress = s.nmiAddress := rfl
@[simp] theorem State.setMem_irqAddress (s : State) (v : Memory) : (s.setMem v).irqAddress = s.irqAddress := rfl
@[simp] theorem State.setMem_fault (s : State) (v : Memory) : (s.setMem v).fault = s.fault := rfl
@[simp] theorem State.setMem_mem (s : State) (v : Memory) : (s.setMem v).mem = v := rfl
@[simp] theorem State.setMem_params (s : State) (v : Memory) : (s.setMem v).params = s.params := rfl
@[simp] theorem State.setMem_draws (s : State) (v : Memory) : (s.setMem v).draws = s.draws := rfl
@[simp] theorem State.setMem_portCalls (s : State) (v : Memory) : (s.setMem v).portCalls = s.portCalls := rfl
@[simp] theorem State.setParams_a (s : State) (v : Params) : (s.setParams v).a = s.a := rfl
@[simp] theorem State.setParams_x (s : State) (v : Params) : (s.setParams v).x = s.x := rfl
@[simp] theorem State.setParams_y (s : State) (v : Params) : (s.setParams v).y = s.y := rfl
@[simp] theorem State.setParams_sp (s : State) (v : Params) : (s.setParams v).sp = s.sp := rfl
@[simp] theorem State.setParams_pc (s : State) (v : Params) : (s.setParams v).pc = s.pc := rfl
@[simp] theorem State.setParams_p (s : State) (v : Params) : (s.setParams v).p = s.p := rfl
@[simp] theorem State.setParams_cycles (s : State) (v : Params) : (s.setParams v).cycles = s.cycles := rfl
@[simp] theorem State.setParams_stallCycles (s : State) (v : Params) : (s.setParams v).stallCycles = s.stallCycles := rfl
@[simp] theorem State.setParams_nmiPending (s : State) (v : Params) : (s.setParams v).nmiPending = s.nmiPending := rfl
@[simp] theorem State.setParams_irqPending (s : State) (v : Params) : (s.setParams v).irqPending = s.irqPending := rfl
@[simp] theorem State.setParams_nmiRunning (s : State) (v : Params) : (s.setParams v).nmiRunning = s.nmiRunning := rfl
@[simp] theorem State.setParams_irqRunning (s : State) (v : Params) : (s.setParams v).irqRunning = s.irqRunning := rfl
@[simp] theorem State.setParams_nmiAddress (s : State) (v : Params) : (s.setParams v).nmiAddress = s.nmiAddress := rfl
@[simp] theorem State.setParams_irqAddress (s : State) (v : Params) : (s.setParams v).irqAddress = s.irqAddress := rfl
@[simp] theorem State.setParams_fault (s : State) (v : Params) : (s.setParams v).fault = s.fault := rfl
@[simp] theorem State.setParams_mem (s : State) (v : Params) : (s.setParams v).mem = s.mem := rfl
@[simp] theorem State.setParams_params (s : State) (v : Params) : (s.setParams v).params = v := rfl
@[simp] theorem State.setParams_draws (s : State) (v : Params) : (s.setParams v).draws = s.draws := rfl
@[simp] theorem State.setParams_portCalls (s : State) (v : Params) : (s.setParams v).portCalls = s.portCalls := rfl
@[simp] theorem State.setDraws_a (s : State) (v : Nat) : (s.setDraws v).a = s.a := rfl
@[simp] theorem State.setDraws_x (s : State) (v : Nat) : (s.setDraws v).x = s.x := rfl
@[simp] theorem State.setDraws_y (s : State) (v : Nat) : (s.setDraws v).y = s.y := rfl
@[simp] theorem State.setDraws_sp (s : State) (v : Nat) : (s.setDraws v).sp = s.sp := rfl
@[simp] theorem State.setDraws_pc (s : State) (v : Nat) : (s.setDraws v).pc = s.pc := rfl
@[simp] theorem State.setDraws_p (s : State) (v : Nat) : (s.setDraws v).p = s.p := rfl
@[simp] theorem State.setDraws_cycles (s : State) (v : Nat) : (s.setDraws v).cycles = s.cycles := rfl
@[simp] theorem State.setDraws_stallCycles (s : State) (v : Nat) : (s.setDraws v).stallCycles = s.stallCycles := rfl
@[simp] theorem State.setDraws_nmiPending (s : State) (v : Nat) : (s.setDraws v).nmiPending = s.nmiPending := rfl
@[simp] theorem State.setDraws_irqPending (s : State) (v : Nat) : (s.setDraws v).irqPending = s.irqPending := rfl
@[simp] theorem State.setDraws_nmiRunning (s : State) (v : Nat) : (s.setDraws v).nmiRunning = s.nmiRunning := rfl
@[simp] theorem State.setDraws_irqRunning (s : State) (v : Nat) : (s.setDraws v).irqRunning = s.irqRunning := rfl
@[simp] theorem State.setDraws_nmiAddress (s : State) (v : Nat) : (s.setDraws v).nmiAddress = s.nmiAddress := rfl
@[simp] theorem State.setDraws_irqAddress (s : State) (v : Nat) : (s.setDraws v).irqAddress = s.irqAddress := rfl
@[simp] theorem State.setDraws_fault (s : State) (v : Nat) : (s.setDraws v).fault = s.fault := rfl
@[simp] theorem State.setDraws_mem (s : State) (v : Nat) : (s.setDraws v).mem = s.mem := rfl
@[simp] theorem State.setDraws_params (s : State) (v : Nat) : (s.setDraws v).params = s.params := rfl
@[simp] theorem State.setDraws_draws (s : State) (v : Nat) : (s.setDraws v).draws = v := rfl
@[simp] theorem State.setDraws_portCalls (s : State) (v : Nat) : (s.setDraws v).portCalls = s.portCalls := rfl
@[simp] theorem State.setPortCalls_a (s : State) (v : List PortCall) : (s.setPortCalls v).a = s.a := rfl
@[simp] theorem State.setPortCalls_x (s : State) (v : List PortCall) : (s.setPortCalls v).x = s.x := rfl
@[simp] theorem State.setPortCalls_y (s : State) (v : List PortCall) : (s.setPortCalls v).y = s.y := rfl
@[simp] theorem State.setPortCalls_sp (s : State) (v : List PortCall) : (s.setPortCalls v).sp = s.sp := rfl
@[simp] theorem State.setPortCalls_pc (s : State) (v : List PortCall) : (s.setPortCalls v).pc = s.pc := rfl
@[simp] theorem State.setPortCalls_p (s : State) (v : List PortCall) : (s.setPortCalls v).p = s.p := rfl
@[simp] theorem State.setPortCalls_cycles (s : State) (v : List PortCall) : (s.setPortCalls v).cycles = s.cycles := rfl
@[simp] theorem State.setPortCalls_stallCycles (s : State) (v : List PortCall) : (s.setPortCalls v).stallCycles = s.stallCycles := rfl
@[simp] theorem State.setPortCalls_nmiPending (s : State) (v : List PortCall) : (s.setPortCalls v).nmiPending = s.nmiPending := rfl
@[simp] theorem State.setPortCalls_irqPending (s : State) (v : List PortCall) : (s.setPortCalls v).irqPending = s.irqPending := rfl
@[simp] theorem State.setPortCalls_nmiRunning (s : State) (v : List PortCall) : (s.setPortCalls v).nmiRunning = s.nmiRunning := rfl
@[simp] theorem State.setPortCalls_irqRunning (s : State) (v : List PortCall) : (s.setPortCalls v).irqRunning = s.irqRunning := rfl
@[simp] theorem State.setPortCalls_nmiAddress (s : State) (v : List PortCall) : (s.setPortCalls v).nmiAddress = s.nmiAddress := rfl
@[simp] theorem State.setPortCalls_irqAddress (s : State) (v : List PortCall) : (s.setPortCalls v).irqAddress = s.irqAddress := rfl
@[simp] theorem State.setPortCalls_fault (s : State) (v : List PortCall) : (s.setPortCalls v).fault = s.fault := rfl
@[simp] theorem State.setPortCalls_mem (s : State) (v : List PortCall) : (s.setPortCalls v).mem = s.mem := rfl
@[simp] theorem State.setPortCalls_params (s : State) (v : List PortCall) : (s.setPortCalls v).params = s.params := rfl
@[simp] theorem State.setPortCalls_draws (s : State) (v : List PortCall) : (s.setPortCalls v).draws = s.draws := rfl
@[simp] theorem State.setPortCalls_portCalls (s : State) (v : List PortCall) : (s.setPortCalls v).portCalls = v := rfl

end Sys2Proof.Machine
end

