-- ==== Sys2Proof/Laws/Ops.lean ====
section
/-! SUPPORT. What each shared operation of Machine/Ops.lean does to each field of State, and what the port answers. -/

namespace Sys2Proof.Machine

/-! ### Port calls -/

@[simp] theorem called_a (s : State) (c : PortCall) :
    (s.called c).a = s.a := rfl

@[simp] theorem called_x (s : State) (c : PortCall) :
    (s.called c).x = s.x := rfl

@[simp] theorem called_y (s : State) (c : PortCall) :
    (s.called c).y = s.y := rfl

@[simp] theorem called_sp (s : State) (c : PortCall) :
    (s.called c).sp = s.sp := rfl

@[simp] theorem called_pc (s : State) (c : PortCall) :
    (s.called c).pc = s.pc := rfl

@[simp] theorem called_p (s : State) (c : PortCall) :
    (s.called c).p = s.p := rfl

@[simp] theorem called_cycles (s : State) (c : PortCall) :
    (s.called c).cycles = s.cycles := rfl

@[simp] theorem called_stallCycles (s : State) (c : PortCall) :
    (s.called c).stallCycles = s.stallCycles := rfl

@[simp] theorem called_nmiPending (s : State) (c : PortCall) :
    (s.called c).nmiPending = s.nmiPending := rfl

@[simp] theorem called_irqPending (s : State) (c : PortCall) :
    (s.called c).irqPending = s.irqPending := rfl

@[simp] theorem called_nmiRunning (s : State) (c : PortCall) :
    (s.called c).nmiRunning = s.nmiRunning := rfl

@[simp] theorem called_irqRunning (s : State) (c : PortCall) :
    (s.called c).irqRunning = s.irqRunning := rfl

@[simp] theorem called_nmiAddress (s : State) (c : PortCall) :
    (s.called c).nmiAddress = s.nmiAddress := rfl

@[simp] theorem called_irqAddress (s : State) (c : PortCall) :
    (s.called c).irqAddress = s.irqAddress := rfl

@[simp] theorem called_fault (s : State) (c : PortCall) :
    (s.called c).fault = s.fault := rfl

@[simp] theorem called_mem (s : State) (c : PortCall) :
    (s.called c).mem = s.mem := rfl

@[simp] theorem called_params (s : State) (c : PortCall) :
    (s.called c).params = s.params := rfl

@[simp] theorem called_draws (s : State) (c : PortCall) :
    (s.called c).draws = s.draws := rfl

@[simp] theorem called_portCalls (s : State) (c : PortCall) :
    (s.called c).portCalls = s.portCalls ++ [c] := rfl

@[simp] theorem afterRead_a (s : State) (a : Word) :
    (s.afterRead a).a = s.a := by unfold State.afterRead; split <;> rfl

@[simp] theorem afterRead_x (s : State) (a : Word) :
    (s.afterRead a).x = s.x := by unfold State.afterRead; split <;> rfl

@[simp] theorem afterRead_y (s : State) (a : Word) :
    (s.afterRead a).y = s.y := by unfold State.afterRead; split <;> rfl

@[simp] theorem afterRead_sp (s : State) (a : Word) :
    (s.afterRead a).sp = s.sp := by unfold State.afterRead; split <;> rfl

@[simp] theorem afterRead_pc (s : State) (a : Word) :
    (s.afterRead a).pc = s.pc := by unfold State.afterRead; split <;> rfl

@[simp] theorem afterRead_p (s : State) (a : Word) :
    (s.afterRead a).p = s.p := by unfold State.afterRead; split <;> rfl

@[simp] theorem afterRead_cycles (s : State) (a : Word) :
    (s.afterRead a).cycles = s.cycles := by unfold State.afterRead; split <;> rfl

@[simp] theorem afterRead_stallCycles (s : State) (a : Word) :
    (s.afterRead a).stallCycles = s.stallCycles := by unfold State.afterRead; split <;> rfl

@[simp] theorem afterRead_nmiPending (s : State) (a : Word) :
    (s.afterRead a).nmiPending = s.nmiPending := by unfold State.afterRead; split <;> rfl

@[simp] theorem afterRead_irqPending (s : State) (a : Word) :
    (s.afterRead a).irqPending = s.irqPending := by unfold State.afterRead; split <;> rfl

@[simp] theorem afterRead_nmiRunning (s : State) (a : Word) :
    (s.afterRead a).nmiRunning = s.nmiRunning := by unfold State.afterRead; split <;> rfl

@[simp] theorem afterRead_irqRunning (s : State) (a : Word) :
    (s.afterRead a).irqRunning = s.irqRunning := by unfold State.afterRead; split <;> rfl

@[simp] theorem afterRead_nmiAddress (s : State) (a : Word) :
    (s.afterRead a).nmiAddress = s.nmiAddress := by unfold State.afterRead; split <;> rfl

@[simp] theorem afterRead_irqAddress (s : State) (a : Word) :
    (s.afterRead a).irqAddress = s.irqAddress := by unfold State.afterRead; split <;> rfl

@[simp] theorem afterRead_fault (s : State) (a : Word) :
    (s.afterRead a).fault = s.fault := by unfold State.afterRead; split <;> rfl

@[simp] theorem afterRead_mem (s : State) (a : Word) :
    (s.afterRead a).mem = s.mem := by unfold State.afterRead; split <;> rfl

@[simp] theorem afterRead_params (s : State) (a : Word) :
    (s.afterRead a).params = s.params := by unfold State.afterRead; split <;> rfl

@[simp] theorem afterRead_portCalls (s : State) (a : Word) :
    (s.afterRead a).portCalls = s.portCalls ++ [.read a (s.portByte a)] := by
  unfold State.afterRead; split <;> rfl

theorem afterRead_draws (s : State) (a : Word) :
    (s.afterRead a).draws = if s.params.memory = .hostOracle then s.draws + 1 else s.draws := by
  unfold State.afterRead; split <;> simp_all

/-- Under `PlainRAM` the port answers the array's byte. -/
theorem portByte_plainRam (s : State) (a : Word) (h : s.params.memory = .plainRam) :
    s.portByte a = s.mem.load a.toNat := by
  simp [State.portByte, h]

/-- Under the host oracle the port answers the next free value. -/
theorem portByte_hostOracle (s : State) (a : Word) (h : s.params.memory = .hostOracle) :
    s.portByte a = Config.portDraw s.draws := by
  simp [State.portByte, h]

@[simp] theorem memRead_fst (a : Word) (s : State) : (memRead a s).1 = s.portByte a := rfl

@[simp] theorem memRead_snd (a : Word) (s : State) : (memRead a s).2 = s.afterRead a := rfl

/-- Two states agree on everything but the port's own record: the calls made and the oracle's count. -/
def SameButPort (s t : State) : Prop :=
  t = { s with draws := t.draws, portCalls := t.portCalls }

theorem SameButPort.refl (s : State) : SameButPort s s := rfl

theorem SameButPort.trans {s t u : State} (h : SameButPort s t) (k : SameButPort t u) : SameButPort s u := by
  unfold SameButPort at *
  rw [k, h]

/-- All a port read can do. -/
theorem sameButPort_afterRead (s : State) (a : Word) : SameButPort s (s.afterRead a) := by
  unfold SameButPort State.afterRead
  split <;> rfl

@[simp] theorem memWrite_a (a : Word) (v : Byte) (s : State) :
    (memWrite a v s).a = s.a := by unfold memWrite; split <;> rfl

@[simp] theorem memWrite_x (a : Word) (v : Byte) (s : State) :
    (memWrite a v s).x = s.x := by unfold memWrite; split <;> rfl

@[simp] theorem memWrite_y (a : Word) (v : Byte) (s : State) :
    (memWrite a v s).y = s.y := by unfold memWrite; split <;> rfl

@[simp] theorem memWrite_sp (a : Word) (v : Byte) (s : State) :
    (memWrite a v s).sp = s.sp := by unfold memWrite; split <;> rfl

@[simp] theorem memWrite_pc (a : Word) (v : Byte) (s : State) :
    (memWrite a v s).pc = s.pc := by unfold memWrite; split <;> rfl

@[simp] theorem memWrite_p (a : Word) (v : Byte) (s : State) :
    (memWrite a v s).p = s.p := by unfold memWrite; split <;> rfl

@[simp] theorem memWrite_cycles (a : Word) (v : Byte) (s : State) :
    (memWrite a v s).cycles = s.cycles := by unfold memWrite; split <;> rfl

@[simp] theorem memWrite_stallCycles (a : Word) (v : Byte) (s : State) :
    (memWrite a v s).stallCycles = s.stallCycles := by unfold memWrite; split <;> rfl

@[simp] theorem memWrite_nmiPending (a : Word) (v : Byte) (s : State) :
    (memWrite a v s).nmiPending = s.nmiPending := by unfold memWrite; split <;> rfl

@[simp] theorem memWrite_irqPending (a : Word) (v : Byte) (s : State) :
    (memWrite a v s).irqPending = s.irqPending := by unfold memWrite; split <;> rfl

@[simp] theorem memWrite_nmiRunning (a : Word) (v : Byte) (s : State) :
    (memWrite a v s).nmiRunning = s.nmiRunning := by unfold memWrite; split <;> rfl

@[simp] theorem memWrite_irqRunning (a : Word) (v : Byte) (s : State) :
    (memWrite a v s).irqRunning = s.irqRunning := by unfold memWrite; split <;> rfl

@[simp] theorem memWrite_nmiAddress (a : Word) (v : Byte) (s : State) :
    (memWrite a v s).nmiAddress = s.nmiAddress := by unfold memWrite; split <;> rfl

@[simp] theorem memWrite_irqAddress (a : Word) (v : Byte) (s : State) :
    (memWrite a v s).irqAddress = s.irqAddress := by unfold memWrite; split <;> rfl

@[simp] theorem memWrite_fault (a : Word) (v : Byte) (s : State) :
    (memWrite a v s).fault = s.fault := by unfold memWrite; split <;> rfl

@[simp] theorem memWrite_params (a : Word) (v : Byte) (s : State) :
    (memWrite a v s).params = s.params := by unfold memWrite; split <;> rfl

@[simp] theorem memWrite_draws (a : Word) (v : Byte) (s : State) :
    (memWrite a v s).draws = s.draws := by unfold memWrite; split <;> rfl

@[simp] theorem memWrite_portCalls (a : Word) (v : Byte) (s : State) :
    (memWrite a v s).portCalls = s.portCalls ++ [.write a v] := by
  unfold memWrite; split <;> rfl

/-- All a port write can do to the array. -/
theorem memWrite_mem (a : Word) (v : Byte) (s : State) :
    (memWrite a v s).mem = if s.params.memory = .plainRam then s.mem.store a.toNat v else s.mem := by
  unfold memWrite; split <;> simp_all

/-- A port write keeps the canonical form. -/
theorem memWrite_wf (a : Word) (v : Byte) (s : State) (h : s.mem.wf = true) : (memWrite a v s).mem.wf = true := by
  rw [memWrite_mem]
  split
  · exact Memory.store_wf _ _ _ a.isLt h
  · exact h

/-- A port write leaves every other byte alone. -/
theorem memWrite_load_other (a b : Word) (v : Byte) (s : State) (h : b ≠ a) :
    (memWrite a v s).mem.load b.toNat = s.mem.load b.toNat := by
  rw [memWrite_mem]
  split
  · exact Memory.load_store_other _ _ _ _ (fun he => h (BitVec.eq_of_toNat_eq he))
  · rfl

/-- Under `PlainRAM` the port then answers the byte written. -/
theorem portByte_memWrite (a : Word) (v : Byte) (s : State) (h : s.params.memory = .plainRam) :
    (memWrite a v s).portByte a = v := by
  rw [portByte_plainRam _ _ (by simpa using h), memWrite_mem, if_pos h, Memory.load_store_same]

/-! ### Words -/

theorem readWord_spec (a : Word) (s : State) :
    readWord a s = (wordOf ((s.afterRead a).portByte (a + 1)) (s.portByte a), (s.afterRead a).afterRead (a + 1)) := rfl

@[simp] theorem readWord_a (a : Word) (s : State) :
    ((readWord a s).2).a = s.a := by simp [readWord_spec]

@[simp] theorem readWord_x (a : Word) (s : State) :
    ((readWord a s).2).x = s.x := by simp [readWord_spec]

@[simp] theorem readWord_y (a : Word) (s : State) :
    ((readWord a s).2).y = s.y := by simp [readWord_spec]

@[simp] theorem readWord_sp (a : Word) (s : State) :
    ((readWord a s).2).sp = s.sp := by simp [readWord_spec]

@[simp] theorem readWord_pc (a : Word) (s : State) :
    ((readWord a s).2).pc = s.pc := by simp [readWord_spec]

@[simp] theorem readWord_p (a : Word) (s : State) :
    ((readWord a s).2).p = s.p := by simp [readWord_spec]

@[simp] theorem readWord_cycles (a : Word) (s : State) :
    ((readWord a s).2).cycles = s.cycles := by simp [readWord_spec]

@[simp] theorem readWord_stallCycles (a : Word) (s : State) :
    ((readWord a s).2).stallCycles = s.stallCycles := by simp [readWord_spec]

@[simp] theorem readWord_nmiPending (a : Word) (s : State) :
    ((readWord a s).2).nmiPending = s.nmiPending := by simp [readWord_spec]

@[simp] theorem readWord_irqPending (a : Word) (s : State) :
    ((readWord a s).2).irqPending = s.irqPending := by simp [readWord_spec]

@[simp] theorem readWord_nmiRunning (a : Word) (s : State) :
    ((readWord a s).2).nmiRunning = s.nmiRunning := by simp [readWord_spec]

@[simp] theorem readWord_irqRunning (a : Word) (s : State) :
    ((readWord a s).2).irqRunning = s.irqRunning := by simp [readWord_spec]

@[simp] theorem readWord_nmiAddress (a : Word) (s : State) :
    ((readWord a s).2).nmiAddress = s.nmiAddress := by simp [readWord_spec]

@[simp] theorem readWord_irqAddress (a : Word) (s : State) :
    ((readWord a s).2).irqAddress = s.irqAddress := by simp [readWord_spec]

@[simp] theorem readWord_fault (a : Word) (s : State) :
    ((readWord a s).2).fault = s.fault := by simp [readWord_spec]

@[simp] theorem readWord_mem (a : Word) (s : State) :
    ((readWord a s).2).mem = s.mem := by simp [readWord_spec]

@[simp] theorem readWord_params (a : Word) (s : State) :
    ((readWord a s).2).params = s.params := by simp [readWord_spec]

theorem sameButPort_readWord (a : Word) (s : State) : SameButPort s (readWord a s).2 :=
  (sameButPort_afterRead _ _).trans (sameButPort_afterRead _ _)

theorem readWordBug_spec (a : Word) (s : State) :
    readWordBug a s = (wordOf ((s.afterRead a).portByte (wordOf (hi a) (lo a + 1))) (s.portByte a), (s.afterRead a).afterRead (wordOf (hi a) (lo a + 1))) := rfl

@[simp] theorem readWordBug_a (a : Word) (s : State) :
    ((readWordBug a s).2).a = s.a := by simp [readWordBug_spec]

@[simp] theorem readWordBug_x (a : Word) (s : State) :
    ((readWordBug a s).2).x = s.x := by simp [readWordBug_spec]

@[simp] theorem readWordBug_y (a : Word) (s : State) :
    ((readWordBug a s).2).y = s.y := by simp [readWordBug_spec]

@[simp] theorem readWordBug_sp (a : Word) (s : State) :
    ((readWordBug a s).2).sp = s.sp := by simp [readWordBug_spec]

@[simp] theorem readWordBug_pc (a : Word) (s : State) :
    ((readWordBug a s).2).pc = s.pc := by simp [readWordBug_spec]

@[simp] theorem readWordBug_p (a : Word) (s : State) :
    ((readWordBug a s).2).p = s.p := by simp [readWordBug_spec]

@[simp] theorem readWordBug_cycles (a : Word) (s : State) :
    ((readWordBug a s).2).cycles = s.cycles := by simp [readWordBug_spec]

@[simp] theorem readWordBug_stallCycles (a : Word) (s : State) :
    ((readWordBug a s).2).stallCycles = s.stallCycles := by simp [readWordBug_spec]

@[simp] theorem readWordBug_nmiPending (a : Word) (s : State) :
    ((readWordBug a s).2).nmiPending = s.nmiPending := by simp [readWordBug_spec]

@[simp] theorem readWordBug_irqPending (a : Word) (s : State) :
    ((readWordBug a s).2).irqPending = s.irqPending := by simp [readWordBug_spec]

@[simp] theorem readWordBug_nmiRunning (a : Word) (s : State) :
    ((readWordBug a s).2).nmiRunning = s.nmiRunning := by simp [readWordBug_spec]

@[simp] theorem readWordBug_irqRunning (a : Word) (s : State) :
    ((readWordBug a s).2).irqRunning = s.irqRunning := by simp [readWordBug_spec]

@[simp] theorem readWordBug_nmiAddress (a : Word) (s : State) :
    ((readWordBug a s).2).nmiAddress = s.nmiAddress := by simp [readWordBug_spec]

@[simp] theorem readWordBug_irqAddress (a : Word) (s : State) :
    ((readWordBug a s).2).irqAddress = s.irqAddress := by simp [readWordBug_spec]

@[simp] theorem readWordBug_fault (a : Word) (s : State) :
    ((readWordBug a s).2).fault = s.fault := by simp [readWordBug_spec]

@[simp] theorem readWordBug_mem (a : Word) (s : State) :
    ((readWordBug a s).2).mem = s.mem := by simp [readWordBug_spec]

@[simp] theorem readWordBug_params (a : Word) (s : State) :
    ((readWordBug a s).2).params = s.params := by simp [readWordBug_spec]

theorem sameButPort_readWordBug (a : Word) (s : State) : SameButPort s (readWordBug a s).2 :=
  (sameButPort_afterRead _ _).trans (sameButPort_afterRead _ _)

/-! ### The stack engine -/

@[simp] theorem push_a (v : Byte) (s : State) :
    (push v s).a = s.a := by simp [push]

@[simp] theorem push_x (v : Byte) (s : State) :
    (push v s).x = s.x := by simp [push]

@[simp] theorem push_y (v : Byte) (s : State) :
    (push v s).y = s.y := by simp [push]

@[simp] theorem push_pc (v : Byte) (s : State) :
    (push v s).pc = s.pc := by simp [push]

@[simp] theorem push_p (v : Byte) (s : State) :
    (push v s).p = s.p := by simp [push]

@[simp] theorem push_cycles (v : Byte) (s : State) :
    (push v s).cycles = s.cycles := by simp [push]

@[simp] theorem push_stallCycles (v : Byte) (s : State) :
    (push v s).stallCycles = s.stallCycles := by simp [push]

@[simp] theorem push_nmiPending (v : Byte) (s : State) :
    (push v s).nmiPending = s.nmiPending := by simp [push]

@[simp] theorem push_irqPending (v : Byte) (s : State) :
    (push v s).irqPending = s.irqPending := by simp [push]

@[simp] theorem push_nmiRunning (v : Byte) (s : State) :
    (push v s).nmiRunning = s.nmiRunning := by simp [push]

@[simp] theorem push_irqRunning (v : Byte) (s : State) :
    (push v s).irqRunning = s.irqRunning := by simp [push]

@[simp] theorem push_nmiAddress (v : Byte) (s : State) :
    (push v s).nmiAddress = s.nmiAddress := by simp [push]

@[simp] theorem push_irqAddress (v : Byte) (s : State) :
    (push v s).irqAddress = s.irqAddress := by simp [push]

@[simp] theorem push_fault (v : Byte) (s : State) :
    (push v s).fault = s.fault := by simp [push]

@[simp] theorem push_params (v : Byte) (s : State) :
    (push v s).params = s.params := by simp [push]

@[simp] theorem push_draws (v : Byte) (s : State) :
    (push v s).draws = s.draws := by simp [push]

@[simp] theorem push_sp (v : Byte) (s : State) : (push v s).sp = s.sp - 1 := by simp [push]

@[simp] theorem push_portCalls (v : Byte) (s : State) :
    (push v s).portCalls = s.portCalls ++ [.write (stackAddr s.sp) v] := by simp [push]

theorem push_mem (v : Byte) (s : State) : (push v s).mem = (memWrite (stackAddr s.sp) v s).mem := by simp [push]

/-- All a pop can do: SP moves up and one byte is read. -/
theorem pop_spec (s : State) :
    pop s = ((s.setSp (s.sp + 1)).portByte (stackAddr (s.sp + 1)),
      (s.setSp (s.sp + 1)).afterRead (stackAddr (s.sp + 1))) := rfl

@[simp] theorem pop_a (s : State) :
    ((pop s).2).a = s.a := by simp [pop_spec]

@[simp] theorem pop_x (s : State) :
    ((pop s).2).x = s.x := by simp [pop_spec]

@[simp] theorem pop_y (s : State) :
    ((pop s).2).y = s.y := by simp [pop_spec]

@[simp] theorem pop_pc (s : State) :
    ((pop s).2).pc = s.pc := by simp [pop_spec]

@[simp] theorem pop_p (s : State) :
    ((pop s).2).p = s.p := by simp [pop_spec]

@[simp] theorem pop_cycles (s : State) :
    ((pop s).2).cycles = s.cycles := by simp [pop_spec]

@[simp] theorem pop_stallCycles (s : State) :
    ((pop s).2).stallCycles = s.stallCycles := by simp [pop_spec]

@[simp] theorem pop_nmiPending (s : State) :
    ((pop s).2).nmiPending = s.nmiPending := by simp [pop_spec]

@[simp] theorem pop_irqPending (s : State) :
    ((pop s).2).irqPending = s.irqPending := by simp [pop_spec]

@[simp] theorem pop_nmiRunning (s : State) :
    ((pop s).2).nmiRunning = s.nmiRunning := by simp [pop_spec]

@[simp] theorem pop_irqRunning (s : State) :
    ((pop s).2).irqRunning = s.irqRunning := by simp [pop_spec]

@[simp] theorem pop_nmiAddress (s : State) :
    ((pop s).2).nmiAddress = s.nmiAddress := by simp [pop_spec]

@[simp] theorem pop_irqAddress (s : State) :
    ((pop s).2).irqAddress = s.irqAddress := by simp [pop_spec]

@[simp] theorem pop_fault (s : State) :
    ((pop s).2).fault = s.fault := by simp [pop_spec]

@[simp] theorem pop_mem (s : State) :
    ((pop s).2).mem = s.mem := by simp [pop_spec]

@[simp] theorem pop_params (s : State) :
    ((pop s).2).params = s.params := by simp [pop_spec]

@[simp] theorem pop_sp (s : State) : (pop s).2.sp = s.sp + 1 := by simp [pop_spec]

@[simp] theorem push16_a (w : Word) (s : State) :
    (push16 w s).a = s.a := by simp [push16]

@[simp] theorem push16_x (w : Word) (s : State) :
    (push16 w s).x = s.x := by simp [push16]

@[simp] theorem push16_y (w : Word) (s : State) :
    (push16 w s).y = s.y := by simp [push16]

@[simp] theorem push16_pc (w : Word) (s : State) :
    (push16 w s).pc = s.pc := by simp [push16]

@[simp] theorem push16_p (w : Word) (s : State) :
    (push16 w s).p = s.p := by simp [push16]

@[simp] theorem push16_cycles (w : Word) (s : State) :
    (push16 w s).cycles = s.cycles := by simp [push16]

@[simp] theorem push16_stallCycles (w : Word) (s : State) :
    (push16 w s).stallCycles = s.stallCycles := by simp [push16]

@[simp] theorem push16_nmiPending (w : Word) (s : State) :
    (push16 w s).nmiPending = s.nmiPending := by simp [push16]

@[simp] theorem push16_irqPending (w : Word) (s : State) :
    (push16 w s).irqPending = s.irqPending := by simp [push16]

@[simp] theorem push16_nmiRunning (w : Word) (s : State) :
    (push16 w s).nmiRunning = s.nmiRunning := by simp [push16]

@[simp] theorem push16_irqRunning (w : Word) (s : State) :
    (push16 w s).irqRunning = s.irqRunning := by simp [push16]

@[simp] theorem push16_nmiAddress (w : Word) (s : State) :
    (push16 w s).nmiAddress = s.nmiAddress := by simp [push16]

@[simp] theorem push16_irqAddress (w : Word) (s : State) :
    (push16 w s).irqAddress = s.irqAddress := by simp [push16]

@[simp] theorem push16_fault (w : Word) (s : State) :
    (push16 w s).fault = s.fault := by simp [push16]

@[simp] theorem push16_params (w : Word) (s : State) :
    (push16 w s).params = s.params := by simp [push16]

@[simp] theorem push16_draws (w : Word) (s : State) :
    (push16 w s).draws = s.draws := by simp [push16]

@[simp] theorem push16_sp (w : Word) (s : State) : (push16 w s).sp = s.sp - 1 - 1 := by simp [push16]

theorem pop16_spec (s : State) : pop16 s = (wordOf (pop (pop s).2).1 (pop s).1, (pop (pop s).2).2) := rfl

@[simp] theorem pop16_a (s : State) :
    ((pop16 s).2).a = s.a := by simp [pop16_spec]

@[simp] theorem pop16_x (s : State) :
    ((pop16 s).2).x = s.x := by simp [pop16_spec]

@[simp] theorem pop16_y (s : State) :
    ((pop16 s).2).y = s.y := by simp [pop16_spec]

@[simp] theorem pop16_pc (s : State) :
    ((pop16 s).2).pc = s.pc := by simp [pop16_spec]

@[simp] theorem pop16_p (s : State) :
    ((pop16 s).2).p = s.p := by simp [pop16_spec]

@[simp] theorem pop16_cycles (s : State) :
    ((pop16 s).2).cycles = s.cycles := by simp [pop16_spec]

@[simp] theorem pop16_stallCycles (s : State) :
    ((pop16 s).2).stallCycles = s.stallCycles := by simp [pop16_spec]

@[simp] theorem pop16_nmiPending (s : State) :
    ((pop16 s).2).nmiPending = s.nmiPending := by simp [pop16_spec]

@[simp] theorem pop16_irqPending (s : State) :
    ((pop16 s).2).irqPending = s.irqPending := by simp [pop16_spec]

@[simp] theorem pop16_nmiRunning (s : State) :
    ((pop16 s).2).nmiRunning = s.nmiRunning := by simp [pop16_spec]

@[simp] theorem pop16_irqRunning (s : State) :
    ((pop16 s).2).irqRunning = s.irqRunning := by simp [pop16_spec]

@[simp] theorem pop16_nmiAddress (s : State) :
    ((pop16 s).2).nmiAddress = s.nmiAddress := by simp [pop16_spec]

@[simp] theorem pop16_irqAddress (s : State) :
    ((pop16 s).2).irqAddress = s.irqAddress := by simp [pop16_spec]

@[simp] theorem pop16_fault (s : State) :
    ((pop16 s).2).fault = s.fault := by simp [pop16_spec]

@[simp] theorem pop16_mem (s : State) :
    ((pop16 s).2).mem = s.mem := by simp [pop16_spec]

@[simp] theorem pop16_params (s : State) :
    ((pop16 s).2).params = s.params := by simp [pop16_spec]

@[simp] theorem pop16_sp (s : State) : (pop16 s).2.sp = s.sp + 1 + 1 := by simp [pop16_spec]

/-! ### Cycles and the program counter -/

@[simp] theorem addCycles_a (n : Nat) (s : State) :
    (addCycles n s).a = s.a := rfl

@[simp] theorem addCycles_x (n : Nat) (s : State) :
    (addCycles n s).x = s.x := rfl

@[simp] theorem addCycles_y (n : Nat) (s : State) :
    (addCycles n s).y = s.y := rfl

@[simp] theorem addCycles_sp (n : Nat) (s : State) :
    (addCycles n s).sp = s.sp := rfl

@[simp] theorem addCycles_pc (n : Nat) (s : State) :
    (addCycles n s).pc = s.pc := rfl

@[simp] theorem addCycles_p (n : Nat) (s : State) :
    (addCycles n s).p = s.p := rfl

@[simp] theorem addCycles_stallCycles (n : Nat) (s : State) :
    (addCycles n s).stallCycles = s.stallCycles := rfl

@[simp] theorem addCycles_nmiPending (n : Nat) (s : State) :
    (addCycles n s).nmiPending = s.nmiPending := rfl

@[simp] theorem addCycles_irqPending (n : Nat) (s : State) :
    (addCycles n s).irqPending = s.irqPending := rfl

@[simp] theorem addCycles_nmiRunning (n : Nat) (s : State) :
    (addCycles n s).nmiRunning = s.nmiRunning := rfl

@[simp] theorem addCycles_irqRunning (n : Nat) (s : State) :
    (addCycles n s).irqRunning = s.irqRunning := rfl

@[simp] theorem addCycles_nmiAddress (n : Nat) (s : State) :
    (addCycles n s).nmiAddress = s.nmiAddress := rfl

@[simp] theorem addCycles_irqAddress (n : Nat) (s : State) :
    (addCycles n s).irqAddress = s.irqAddress := rfl

@[simp] theorem addCycles_fault (n : Nat) (s : State) :
    (addCycles n s).fault = s.fault := rfl

@[simp] theorem addCycles_mem (n : Nat) (s : State) :
    (addCycles n s).mem = s.mem := rfl

@[simp] theorem addCycles_params (n : Nat) (s : State) :
    (addCycles n s).params = s.params := rfl

@[simp] theorem addCycles_draws (n : Nat) (s : State) :
    (addCycles n s).draws = s.draws := rfl

@[simp] theorem addCycles_portCalls (n : Nat) (s : State) :
    (addCycles n s).portCalls = s.portCalls := rfl

@[simp] theorem addCycles_cycles (n : Nat) (s : State) :
    (addCycles n s).cycles = s.cycles + BitVec.ofNat 64 n := rfl

@[simp] theorem account_a (op : Byte) (cross : Bool) (s : State) :
    (account op cross s).a = s.a := rfl

@[simp] theorem account_x (op : Byte) (cross : Bool) (s : State) :
    (account op cross s).x = s.x := rfl

@[simp] theorem account_y (op : Byte) (cross : Bool) (s : State) :
    (account op cross s).y = s.y := rfl

@[simp] theorem account_sp (op : Byte) (cross : Bool) (s : State) :
    (account op cross s).sp = s.sp := rfl

@[simp] theorem account_pc (op : Byte) (cross : Bool) (s : State) :
    (account op cross s).pc = s.pc := rfl

@[simp] theorem account_p (op : Byte) (cross : Bool) (s : State) :
    (account op cross s).p = s.p := rfl

@[simp] theorem account_stallCycles (op : Byte) (cross : Bool) (s : State) :
    (account op cross s).stallCycles = s.stallCycles := rfl

@[simp] theorem account_nmiPending (op : Byte) (cross : Bool) (s : State) :
    (account op cross s).nmiPending = s.nmiPending := rfl

@[simp] theorem account_irqPending (op : Byte) (cross : Bool) (s : State) :
    (account op cross s).irqPending = s.irqPending := rfl

@[simp] theorem account_nmiRunning (op : Byte) (cross : Bool) (s : State) :
    (account op cross s).nmiRunning = s.nmiRunning := rfl

@[simp] theorem account_irqRunning (op : Byte) (cross : Bool) (s : State) :
    (account op cross s).irqRunning = s.irqRunning := rfl

@[simp] theorem account_nmiAddress (op : Byte) (cross : Bool) (s : State) :
    (account op cross s).nmiAddress = s.nmiAddress := rfl

@[simp] theorem account_irqAddress (op : Byte) (cross : Bool) (s : State) :
    (account op cross s).irqAddress = s.irqAddress := rfl

@[simp] theorem account_fault (op : Byte) (cross : Bool) (s : State) :
    (account op cross s).fault = s.fault := rfl

@[simp] theorem account_mem (op : Byte) (cross : Bool) (s : State) :
    (account op cross s).mem = s.mem := rfl

@[simp] theorem account_params (op : Byte) (cross : Bool) (s : State) :
    (account op cross s).params = s.params := rfl

@[simp] theorem account_draws (op : Byte) (cross : Bool) (s : State) :
    (account op cross s).draws = s.draws := rfl

@[simp] theorem account_portCalls (op : Byte) (cross : Bool) (s : State) :
    (account op cross s).portCalls = s.portCalls := rfl

@[simp] theorem account_cycles (op : Byte) (cross : Bool) (s : State) :
    (account op cross s).cycles = s.cycles + BitVec.ofNat 64 (baseCycles op + (crossCharged op && cross).toNat) := rfl

@[simp] theorem updatePc_a (op : Byte) (n : Next) (s : State) :
    (updatePc op n s).a = s.a := by unfold updatePc; split <;> rfl

@[simp] theorem updatePc_x (op : Byte) (n : Next) (s : State) :
    (updatePc op n s).x = s.x := by unfold updatePc; split <;> rfl

@[simp] theorem updatePc_y (op : Byte) (n : Next) (s : State) :
    (updatePc op n s).y = s.y := by unfold updatePc; split <;> rfl

@[simp] theorem updatePc_sp (op : Byte) (n : Next) (s : State) :
    (updatePc op n s).sp = s.sp := by unfold updatePc; split <;> rfl

@[simp] theorem updatePc_p (op : Byte) (n : Next) (s : State) :
    (updatePc op n s).p = s.p := by unfold updatePc; split <;> rfl

@[simp] theorem updatePc_cycles (op : Byte) (n : Next) (s : State) :
    (updatePc op n s).cycles = s.cycles := by unfold updatePc; split <;> rfl

@[simp] theorem updatePc_stallCycles (op : Byte) (n : Next) (s : State) :
    (updatePc op n s).stallCycles = s.stallCycles := by unfold updatePc; split <;> rfl

@[simp] theorem updatePc_nmiPending (op : Byte) (n : Next) (s : State) :
    (updatePc op n s).nmiPending = s.nmiPending := by unfold updatePc; split <;> rfl

@[simp] theorem updatePc_irqPending (op : Byte) (n : Next) (s : State) :
    (updatePc op n s).irqPending = s.irqPending := by unfold updatePc; split <;> rfl

@[simp] theorem updatePc_nmiRunning (op : Byte) (n : Next) (s : State) :
    (updatePc op n s).nmiRunning = s.nmiRunning := by unfold updatePc; split <;> rfl

@[simp] theorem updatePc_irqRunning (op : Byte) (n : Next) (s : State) :
    (updatePc op n s).irqRunning = s.irqRunning := by unfold updatePc; split <;> rfl

@[simp] theorem updatePc_nmiAddress (op : Byte) (n : Next) (s : State) :
    (updatePc op n s).nmiAddress = s.nmiAddress := by unfold updatePc; split <;> rfl

@[simp] theorem updatePc_irqAddress (op : Byte) (n : Next) (s : State) :
    (updatePc op n s).irqAddress = s.irqAddress := by unfold updatePc; split <;> rfl

@[simp] theorem updatePc_fault (op : Byte) (n : Next) (s : State) :
    (updatePc op n s).fault = s.fault := by unfold updatePc; split <;> rfl

@[simp] theorem updatePc_mem (op : Byte) (n : Next) (s : State) :
    (updatePc op n s).mem = s.mem := by unfold updatePc; split <;> rfl

@[simp] theorem updatePc_params (op : Byte) (n : Next) (s : State) :
    (updatePc op n s).params = s.params := by unfold updatePc; split <;> rfl

@[simp] theorem updatePc_draws (op : Byte) (n : Next) (s : State) :
    (updatePc op n s).draws = s.draws := by unfold updatePc; split <;> rfl

@[simp] theorem updatePc_portCalls (op : Byte) (n : Next) (s : State) :
    (updatePc op n s).portCalls = s.portCalls := by unfold updatePc; split <;> rfl

@[simp] theorem updatePc_sequential_pc (op : Byte) (s : State) :
    (updatePc op .sequential s).pc = s.pc + BitVec.ofNat 16 (opSize op) := by unfold updatePc; split <;> simp_all

/-- The PC update of a transfer (R119, R120). -/
theorem updatePc_transfer_pc (op : Byte) (t : Word) (s : State) :
    (updatePc op (.transfer t) s).pc =
      if s.params.pcUpdate = .sourceHeuristic ∧ t = s.pc ∧ isJmp op = false then s.pc + BitVec.ofNat 16 (opSize op)
      else t := by
  unfold updatePc
  split <;> simp_all

/-! ### Exceptions -/

@[simp] theorem enterHandler_a (ret : Word) (status : Byte) (s : State) :
    (enterHandler ret status s).a = s.a := by simp [enterHandler]

@[simp] theorem enterHandler_x (ret : Word) (status : Byte) (s : State) :
    (enterHandler ret status s).x = s.x := by simp [enterHandler]

@[simp] theorem enterHandler_y (ret : Word) (status : Byte) (s : State) :
    (enterHandler ret status s).y = s.y := by simp [enterHandler]

@[simp] theorem enterHandler_pc (ret : Word) (status : Byte) (s : State) :
    (enterHandler ret status s).pc = s.pc := by simp [enterHandler]

@[simp] theorem enterHandler_cycles (ret : Word) (status : Byte) (s : State) :
    (enterHandler ret status s).cycles = s.cycles := by simp [enterHandler]

@[simp] theorem enterHandler_stallCycles (ret : Word) (status : Byte) (s : State) :
    (enterHandler ret status s).stallCycles = s.stallCycles := by simp [enterHandler]

@[simp] theorem enterHandler_nmiPending (ret : Word) (status : Byte) (s : State) :
    (enterHandler ret status s).nmiPending = s.nmiPending := by simp [enterHandler]

@[simp] theorem enterHandler_irqPending (ret : Word) (status : Byte) (s : State) :
    (enterHandler ret status s).irqPending = s.irqPending := by simp [enterHandler]

@[simp] theorem enterHandler_nmiRunning (ret : Word) (status : Byte) (s : State) :
    (enterHandler ret status s).nmiRunning = s.nmiRunning := by simp [enterHandler]

@[simp] theorem enterHandler_irqRunning (ret : Word) (status : Byte) (s : State) :
    (enterHandler ret status s).irqRunning = s.irqRunning := by simp [enterHandler]

@[simp] theorem enterHandler_nmiAddress (ret : Word) (status : Byte) (s : State) :
    (enterHandler ret status s).nmiAddress = s.nmiAddress := by simp [enterHandler]

@[simp] theorem enterHandler_irqAddress (ret : Word) (status : Byte) (s : State) :
    (enterHandler ret status s).irqAddress = s.irqAddress := by simp [enterHandler]

@[simp] theorem enterHandler_fault (ret : Word) (status : Byte) (s : State) :
    (enterHandler ret status s).fault = s.fault := by simp [enterHandler]

@[simp] theorem enterHandler_params (ret : Word) (status : Byte) (s : State) :
    (enterHandler ret status s).params = s.params := by simp [enterHandler]

@[simp] theorem enterHandler_draws (ret : Word) (status : Byte) (s : State) :
    (enterHandler ret status s).draws = s.draws := by simp [enterHandler]

@[simp] theorem enterHandler_sp (ret : Word) (status : Byte) (s : State) :
    (enterHandler ret status s).sp = s.sp - 1 - 1 - 1 := by simp [enterHandler]

@[simp] theorem enterHandler_p (ret : Word) (status : Byte) (s : State) :
    (enterHandler ret status s).p = { s.p with i := true } := by simp [enterHandler]

@[simp] theorem vector_a (v : Word) (s : State) :
    (vector v s).a = s.a := by simp [vector]

@[simp] theorem vector_x (v : Word) (s : State) :
    (vector v s).x = s.x := by simp [vector]

@[simp] theorem vector_y (v : Word) (s : State) :
    (vector v s).y = s.y := by simp [vector]

@[simp] theorem vector_stallCycles (v : Word) (s : State) :
    (vector v s).stallCycles = s.stallCycles := by simp [vector]

@[simp] theorem vector_nmiPending (v : Word) (s : State) :
    (vector v s).nmiPending = s.nmiPending := by simp [vector]

@[simp] theorem vector_irqPending (v : Word) (s : State) :
    (vector v s).irqPending = s.irqPending := by simp [vector]

@[simp] theorem vector_nmiRunning (v : Word) (s : State) :
    (vector v s).nmiRunning = s.nmiRunning := by simp [vector]

@[simp] theorem vector_irqRunning (v : Word) (s : State) :
    (vector v s).irqRunning = s.irqRunning := by simp [vector]

@[simp] theorem vector_nmiAddress (v : Word) (s : State) :
    (vector v s).nmiAddress = s.nmiAddress := by simp [vector]

@[simp] theorem vector_irqAddress (v : Word) (s : State) :
    (vector v s).irqAddress = s.irqAddress := by simp [vector]

@[simp] theorem vector_fault (v : Word) (s : State) :
    (vector v s).fault = s.fault := by simp [vector]

@[simp] theorem vector_params (v : Word) (s : State) :
    (vector v s).params = s.params := by simp [vector]

@[simp] theorem vector_draws (v : Word) (s : State) :
    (vector v s).draws = s.draws := by simp [vector]

@[simp] theorem vector_sp (v : Word) (s : State) : (vector v s).sp = s.sp - 1 - 1 - 1 := by simp [vector]

@[simp] theorem vector_p (v : Word) (s : State) : (vector v s).p = { s.p with i := true } := by simp [vector]

@[simp] theorem vector_pc (v : Word) (s : State) : (vector v s).pc = v := by simp [vector]

@[simp] theorem vector_cycles (v : Word) (s : State) : (vector v s).cycles = s.cycles + 7 := by simp [vector]

theorem returnFromInterrupt_spec (s : State) :
    returnFromInterrupt s =
      ((pop16 ((pop s).2.setP (loadedFlags (pop s).1))).1,
       ((pop16 ((pop s).2.setP (loadedFlags (pop s).1))).2.setNmiRunning false).setIrqRunning false) := rfl

@[simp] theorem raiseIllegal_a (b : Byte) (s : State) :
    (raiseIllegal b s).a = s.a := rfl

@[simp] theorem raiseIllegal_x (b : Byte) (s : State) :
    (raiseIllegal b s).x = s.x := rfl

@[simp] theorem raiseIllegal_y (b : Byte) (s : State) :
    (raiseIllegal b s).y = s.y := rfl

@[simp] theorem raiseIllegal_sp (b : Byte) (s : State) :
    (raiseIllegal b s).sp = s.sp := rfl

@[simp] theorem raiseIllegal_pc (b : Byte) (s : State) :
    (raiseIllegal b s).pc = s.pc := rfl

@[simp] theorem raiseIllegal_p (b : Byte) (s : State) :
    (raiseIllegal b s).p = s.p := rfl

@[simp] theorem raiseIllegal_cycles (b : Byte) (s : State) :
    (raiseIllegal b s).cycles = s.cycles := rfl

@[simp] theorem raiseIllegal_stallCycles (b : Byte) (s : State) :
    (raiseIllegal b s).stallCycles = s.stallCycles := rfl

@[simp] theorem raiseIllegal_nmiPending (b : Byte) (s : State) :
    (raiseIllegal b s).nmiPending = s.nmiPending := rfl

@[simp] theorem raiseIllegal_irqPending (b : Byte) (s : State) :
    (raiseIllegal b s).irqPending = s.irqPending := rfl

@[simp] theorem raiseIllegal_nmiRunning (b : Byte) (s : State) :
    (raiseIllegal b s).nmiRunning = s.nmiRunning := rfl

@[simp] theorem raiseIllegal_irqRunning (b : Byte) (s : State) :
    (raiseIllegal b s).irqRunning = s.irqRunning := rfl

@[simp] theorem raiseIllegal_nmiAddress (b : Byte) (s : State) :
    (raiseIllegal b s).nmiAddress = s.nmiAddress := rfl

@[simp] theorem raiseIllegal_irqAddress (b : Byte) (s : State) :
    (raiseIllegal b s).irqAddress = s.irqAddress := rfl

@[simp] theorem raiseIllegal_mem (b : Byte) (s : State) :
    (raiseIllegal b s).mem = s.mem := rfl

@[simp] theorem raiseIllegal_params (b : Byte) (s : State) :
    (raiseIllegal b s).params = s.params := rfl

@[simp] theorem raiseIllegal_draws (b : Byte) (s : State) :
    (raiseIllegal b s).draws = s.draws := rfl

@[simp] theorem raiseIllegal_portCalls (b : Byte) (s : State) :
    (raiseIllegal b s).portCalls = s.portCalls := rfl

@[simp] theorem raiseIllegal_fault (b : Byte) (s : State) :
    (raiseIllegal b s).fault = some (.illegalOpcode s.pc b) := rfl

end Sys2Proof.Machine
end

