-- ==== Sys2Proof/Laws/Operands.lean ====
section
/-! SUPPORT. What the resolver, the operand accessors and the running of a handler do: the resolver and OpRead change
nothing but the port's record, and `run` is one PC update after one handler. -/

namespace Sys2Proof.Machine

theorem SameButPort.a {s t : State} (h : SameButPort s t) : t.a = s.a := by rw [h]
theorem SameButPort.x {s t : State} (h : SameButPort s t) : t.x = s.x := by rw [h]
theorem SameButPort.y {s t : State} (h : SameButPort s t) : t.y = s.y := by rw [h]
theorem SameButPort.sp {s t : State} (h : SameButPort s t) : t.sp = s.sp := by rw [h]
theorem SameButPort.pc {s t : State} (h : SameButPort s t) : t.pc = s.pc := by rw [h]
theorem SameButPort.p {s t : State} (h : SameButPort s t) : t.p = s.p := by rw [h]
theorem SameButPort.cycles {s t : State} (h : SameButPort s t) : t.cycles = s.cycles := by rw [h]
theorem SameButPort.stallCycles {s t : State} (h : SameButPort s t) : t.stallCycles = s.stallCycles := by rw [h]
theorem SameButPort.nmiPending {s t : State} (h : SameButPort s t) : t.nmiPending = s.nmiPending := by rw [h]
theorem SameButPort.irqPending {s t : State} (h : SameButPort s t) : t.irqPending = s.irqPending := by rw [h]
theorem SameButPort.nmiRunning {s t : State} (h : SameButPort s t) : t.nmiRunning = s.nmiRunning := by rw [h]
theorem SameButPort.irqRunning {s t : State} (h : SameButPort s t) : t.irqRunning = s.irqRunning := by rw [h]
theorem SameButPort.nmiAddress {s t : State} (h : SameButPort s t) : t.nmiAddress = s.nmiAddress := by rw [h]
theorem SameButPort.irqAddress {s t : State} (h : SameButPort s t) : t.irqAddress = s.irqAddress := by rw [h]
theorem SameButPort.fault {s t : State} (h : SameButPort s t) : t.fault = s.fault := by rw [h]
theorem SameButPort.mem {s t : State} (h : SameButPort s t) : t.mem = s.mem := by rw [h]
theorem SameButPort.params {s t : State} (h : SameButPort s t) : t.params = s.params := by rw [h]

theorem sameButPort_memRead (a : Word) (s : State) : SameButPort s (memRead a s).2 := sameButPort_afterRead s a

/-- All the resolver can do to the state (R94): it makes port reads. -/
theorem sameButPort_resolveMem (m : MemForm) (s : State) : SameButPort s (resolveMem m s).state := by
  cases m with
  | indx b => exact sameButPort_readWordBug _ _
  | indy b => exact sameButPort_readWordBug _ _
  | _ => exact SameButPort.refl s

theorem sameButPort_resolvedState (f : Form) (s : State) : SameButPort s (resolvedState f s) := by
  cases f with
  | mem m => exact sameButPort_resolveMem m s
  | ind addr => exact sameButPort_readWordBug _ _
  | _ => exact SameButPort.refl s

/-- All OpRead can do to the state (R108). -/
theorem sameButPort_opRead (o : Operand) (s : State) : SameButPort s (opRead o s).2 := by
  rcases o with v | t
  · exact SameButPort.refl s
  · cases t with
    | acc => exact SameButPort.refl s
    | mem ea => exact sameButPort_memRead ea s

/-- An operand read with its resolver changes only the port's record. -/
theorem sameButPort_dataRead {f : Form} {s u : State} {m : Byte} (h : dataRead f s = some (m, u)) :
    SameButPort s u := by
  cases f with
  | imm v => simp only [dataRead, Option.some.injEq, Prod.mk.injEq] at h; rw [← h.2]; exact SameButPort.refl s
  | acc => simp only [dataRead, Option.some.injEq, Prod.mk.injEq] at h; rw [← h.2]; exact SameButPort.refl s
  | mem mf =>
    simp only [dataRead, Option.some.injEq, Prod.mk.injEq, memRead] at h
    rw [← h.2]
    exact (sameButPort_resolveMem mf s).trans (sameButPort_afterRead _ _)
  | imp => simp [dataRead] at h
  | ind _ => simp [dataRead] at h
  | rel _ => simp [dataRead] at h

/-- `run` answers a next state, whatever the handler. -/
theorem run_eq {α : Type} (op : Byte) (r : Resolved α) (h : α → State → Next × State) :
    run op r h = .next (updatePc op (h r.operand (account op r.cross r.state)).1
      (h r.operand (account op r.cross r.state)).2) := rfl

theorem runSeq_eq {α : Type} (op : Byte) (r : Resolved α) (h : α → State → State) :
    runSeq op r h = .next (updatePc op .sequential (h r.operand (account op r.cross r.state))) := rfl

theorem runImplied_eq (op : Byte) (h : State → State) (s : State) :
    runImplied op h s = .next (updatePc op .sequential (h (account op false s))) := rfl

theorem reading_eq (f : Byte → State → State) (o : Operand) (s : State) :
    reading f o s = f (opRead o s).1 (opRead o s).2 := rfl

/-- A read-modify-write on the accumulator makes no port call (R197). -/
theorem modifying_acc (f : Byte → Flags → Byte × Flags) (s : State) :
    modifying f .acc s = (s.setP (f s.a s.p).2).setA (f s.a s.p).1 := rfl

/-- A read-modify-write on memory: one read, then one write, of one address (R180). -/
theorem modifying_mem (f : Byte → Flags → Byte × Flags) (ea : Word) (s : State) :
    modifying f (.mem ea) s =
      memWrite ea (f (s.portByte ea) (s.afterRead ea).p).1
        ((s.afterRead ea).setP (f (s.portByte ea) (s.afterRead ea).p).2) := rfl

end Sys2Proof.Machine
end

