-- ==== Sys2Proof/Laws/Canonical.lean ====
section
/-! SUPPORT. Every memory operation keeps memory's canonical form, and the memory of the reset state has it. -/

namespace Sys2Proof.Machine

theorem reset_mem_wf : State.reset.mem.wf = true := by decide

theorem afterRead_wf (a : Word) (s : State) (h : s.mem.wf = true) : (s.afterRead a).mem.wf = true := by
  rw [afterRead_mem]
  exact h

theorem writeWord_wf (a w : Word) (s : State) (h : s.mem.wf = true) : (writeWord a w s).mem.wf = true :=
  memWrite_wf _ _ _ (memWrite_wf _ _ _ h)

theorem opWrite_wf (t : Place) (v : Byte) (s : State) (h : s.mem.wf = true) : (opWrite t v s).mem.wf = true := by
  cases t with
  | acc => exact h
  | mem ea => exact memWrite_wf _ _ _ h

theorem push_wf (v : Byte) (s : State) (h : s.mem.wf = true) : (push v s).mem.wf = true := by
  rw [push_mem]
  exact memWrite_wf _ _ _ h

theorem push16_wf (w : Word) (s : State) (h : s.mem.wf = true) : (push16 w s).mem.wf = true :=
  push_wf _ _ (push_wf _ _ h)

theorem enterHandler_wf (ret : Word) (status : Byte) (s : State) (h : s.mem.wf = true) :
    (enterHandler ret status s).mem.wf = true :=
  push_wf _ _ (push16_wf _ _ h)

theorem vector_wf (v : Word) (s : State) (h : s.mem.wf = true) : (vector v s).mem.wf = true :=
  enterHandler_wf _ _ _ h

theorem modifying_wf (f : Byte → Flags → Byte × Flags) (t : Place) (s : State) (h : s.mem.wf = true) :
    (modifying f t s).mem.wf = true := by
  cases t with
  | acc => exact h
  | mem ea => exact memWrite_wf _ _ _ (afterRead_wf _ _ h)

theorem memoryChange_wf (a : Word) (v : Byte) (s : State) (h : s.mem.wf = true) : (memoryChange a v s).mem.wf = true :=
  Memory.store_wf _ _ _ a.isLt h

theorem placeBytes_wf (bs : List Byte) (a : Word) (m : Memory) (h : m.wf = true) : (placeBytes bs a m).wf = true := by
  induction bs generalizing a m with
  | nil => exact h
  | cons b bs ih => exact ih _ _ (Memory.store_wf _ _ _ a.isLt h)

end Sys2Proof.Machine
end

