-- ==== Sys2Proof/Laws/Decode.lean ====
section
/-! SUPPORT. What the decoder reads from each opcode byte has that opcode and takes the operand bytes it read, in one
lemma, `shapeRight`, so that a proof about decoding splits over the three shapes and not over the 256 bytes. -/

namespace Sys2Proof

/-- The instructions a byte begins have that byte as their opcode and the bytes read as their operand bytes. -/
def ShapeRight (op : Byte) : Prop :=
  match decodeOpcode op with
  | .bare i => i.opcode = op ∧ i.form.operandBytes = []
  | .byte f => (∀ b, (f b).opcode = op) ∧ ∀ b, (f b).form.operandBytes = [b]
  | .word f => (∀ w, (f w).opcode = op) ∧ ∀ w, (f w).form.operandBytes = [lo w, hi w]

theorem ShapeRight.bare {op : Byte} {i : Instr} (h : decodeOpcode op = .bare i) (k : i.opcode = op)
    (l : i.form.operandBytes = []) : ShapeRight op := by
  unfold ShapeRight
  rw [h]
  exact ⟨k, l⟩

theorem ShapeRight.byte {op : Byte} {f : Byte → Instr} (h : decodeOpcode op = .byte f) (k : ∀ b, (f b).opcode = op)
    (l : ∀ b, (f b).form.operandBytes = [b]) : ShapeRight op := by
  unfold ShapeRight
  rw [h]
  exact ⟨k, l⟩

theorem ShapeRight.word {op : Byte} {f : Word → Instr} (h : decodeOpcode op = .word f) (k : ∀ w, (f w).opcode = op)
    (l : ∀ w, (f w).form.operandBytes = [lo w, hi w]) : ShapeRight op := by
  unfold ShapeRight
  rw [h]
  exact ⟨k, l⟩

theorem shapeRight_row0 : ∀ n : Nat, n < 16 → ShapeRight (BitVec.ofNat 8 (0x00 + n))
  | 0, _ => .bare rfl rfl rfl
  | 1, _ => .byte rfl (fun _ => rfl) (fun _ => rfl)
  | 2, _ => .bare rfl rfl rfl
  | 3, _ => .byte rfl (fun _ => rfl) (fun _ => rfl)
  | 4, _ => .byte rfl (fun _ => rfl) (fun _ => rfl)
  | 5, _ => .byte rfl (fun _ => rfl) (fun _ => rfl)
  | 6, _ => .byte rfl (fun _ => rfl) (fun _ => rfl)
  | 7, _ => .byte rfl (fun _ => rfl) (fun _ => rfl)
  | 8, _ => .bare rfl rfl rfl
  | 9, _ => .byte rfl (fun _ => rfl) (fun _ => rfl)
  | 10, _ => .bare rfl rfl rfl
  | 11, _ => .bare rfl rfl rfl
  | 12, _ => .word rfl (fun _ => rfl) (fun _ => rfl)
  | 13, _ => .word rfl (fun _ => rfl) (fun _ => rfl)
  | 14, _ => .word rfl (fun _ => rfl) (fun _ => rfl)
  | 15, _ => .word rfl (fun _ => rfl) (fun _ => rfl)
  | _ + 16, h => absurd h (by omega)

theorem shapeRight_row1 : ∀ n : Nat, n < 16 → ShapeRight (BitVec.ofNat 8 (0x10 + n))
  | 0, _ => .byte rfl (fun _ => rfl) (fun _ => rfl)
  | 1, _ => .byte rfl (fun _ => rfl) (fun _ => rfl)
  | 2, _ => .bare rfl rfl rfl
  | 3, _ => .byte rfl (fun _ => rfl) (fun _ => rfl)
  | 4, _ => .byte rfl (fun _ => rfl) (fun _ => rfl)
  | 5, _ => .byte rfl (fun _ => rfl) (fun _ => rfl)
  | 6, _ => .byte rfl (fun _ => rfl) (fun _ => rfl)
  | 7, _ => .byte rfl (fun _ => rfl) (fun _ => rfl)
  | 8, _ => .bare rfl rfl rfl
  | 9, _ => .word rfl (fun _ => rfl) (fun _ => rfl)
  | 10, _ => .bare rfl rfl rfl
  | 11, _ => .word rfl (fun _ => rfl) (fun _ => rfl)
  | 12, _ => .word rfl (fun _ => rfl) (fun _ => rfl)
  | 13, _ => .word rfl (fun _ => rfl) (fun _ => rfl)
  | 14, _ => .word rfl (fun _ => rfl) (fun _ => rfl)
  | 15, _ => .word rfl (fun _ => rfl) (fun _ => rfl)
  | _ + 16, h => absurd h (by omega)

theorem shapeRight_row2 : ∀ n : Nat, n < 16 → ShapeRight (BitVec.ofNat 8 (0x20 + n))
  | 0, _ => .word rfl (fun _ => rfl) (fun _ => rfl)
  | 1, _ => .byte rfl (fun _ => rfl) (fun _ => rfl)
  | 2, _ => .bare rfl rfl rfl
  | 3, _ => .byte rfl (fun _ => rfl) (fun _ => rfl)
  | 4, _ => .byte rfl (fun _ => rfl) (fun _ => rfl)
  | 5, _ => .byte rfl (fun _ => rfl) (fun _ => rfl)
  | 6, _ => .byte rfl (fun _ => rfl) (fun _ => rfl)
  | 7, _ => .byte rfl (fun _ => rfl) (fun _ => rfl)
  | 8, _ => .bare rfl rfl rfl
  | 9, _ => .byte rfl (fun _ => rfl) (fun _ => rfl)
  | 10, _ => .bare rfl rfl rfl
  | 11, _ => .bare rfl rfl rfl
  | 12, _ => .word rfl (fun _ => rfl) (fun _ => rfl)
  | 13, _ => .word rfl (fun _ => rfl) (fun _ => rfl)
  | 14, _ => .word rfl (fun _ => rfl) (fun _ => rfl)
  | 15, _ => .word rfl (fun _ => rfl) (fun _ => rfl)
  | _ + 16, h => absurd h (by omega)

theorem shapeRight_row3 : ∀ n : Nat, n < 16 → ShapeRight (BitVec.ofNat 8 (0x30 + n))
  | 0, _ => .byte rfl (fun _ => rfl) (fun _ => rfl)
  | 1, _ => .byte rfl (fun _ => rfl) (fun _ => rfl)
  | 2, _ => .bare rfl rfl rfl
  | 3, _ => .byte rfl (fun _ => rfl) (fun _ => rfl)
  | 4, _ => .byte rfl (fun _ => rfl) (fun _ => rfl)
  | 5, _ => .byte rfl (fun _ => rfl) (fun _ => rfl)
  | 6, _ => .byte rfl (fun _ => rfl) (fun _ => rfl)
  | 7, _ => .byte rfl (fun _ => rfl) (fun _ => rfl)
  | 8, _ => .bare rfl rfl rfl
  | 9, _ => .word rfl (fun _ => rfl) (fun _ => rfl)
  | 10, _ => .bare rfl rfl rfl
  | 11, _ => .word rfl (fun _ => rfl) (fun _ => rfl)
  | 12, _ => .word rfl (fun _ => rfl) (fun _ => rfl)
  | 13, _ => .word rfl (fun _ => rfl) (fun _ => rfl)
  | 14, _ => .word rfl (fun _ => rfl) (fun _ => rfl)
  | 15, _ => .word rfl (fun _ => rfl) (fun _ => rfl)
  | _ + 16, h => absurd h (by omega)

theorem shapeRight_row4 : ∀ n : Nat, n < 16 → ShapeRight (BitVec.ofNat 8 (0x40 + n))
  | 0, _ => .bare rfl rfl rfl
  | 1, _ => .byte rfl (fun _ => rfl) (fun _ => rfl)
  | 2, _ => .bare rfl rfl rfl
  | 3, _ => .byte rfl (fun _ => rfl) (fun _ => rfl)
  | 4, _ => .byte rfl (fun _ => rfl) (fun _ => rfl)
  | 5, _ => .byte rfl (fun _ => rfl) (fun _ => rfl)
  | 6, _ => .byte rfl (fun _ => rfl) (fun _ => rfl)
  | 7, _ => .byte rfl (fun _ => rfl) (fun _ => rfl)
  | 8, _ => .bare rfl rfl rfl
  | 9, _ => .byte rfl (fun _ => rfl) (fun _ => rfl)
  | 10, _ => .bare rfl rfl rfl
  | 11, _ => .bare rfl rfl rfl
  | 12, _ => .word rfl (fun _ => rfl) (fun _ => rfl)
  | 13, _ => .word rfl (fun _ => rfl) (fun _ => rfl)
  | 14, _ => .word rfl (fun _ => rfl) (fun _ => rfl)
  | 15, _ => .word rfl (fun _ => rfl) (fun _ => rfl)
  | _ + 16, h => absurd h (by omega)

theorem shapeRight_row5 : ∀ n : Nat, n < 16 → ShapeRight (BitVec.ofNat 8 (0x50 + n))
  | 0, _ => .byte rfl (fun _ => rfl) (fun _ => rfl)
  | 1, _ => .byte rfl (fun _ => rfl) (fun _ => rfl)
  | 2, _ => .bare rfl rfl rfl
  | 3, _ => .byte rfl (fun _ => rfl) (fun _ => rfl)
  | 4, _ => .byte rfl (fun _ => rfl) (fun _ => rfl)
  | 5, _ => .byte rfl (fun _ => rfl) (fun _ => rfl)
  | 6, _ => .byte rfl (fun _ => rfl) (fun _ => rfl)
  | 7, _ => .byte rfl (fun _ => rfl) (fun _ => rfl)
  | 8, _ => .bare rfl rfl rfl
  | 9, _ => .word rfl (fun _ => rfl) (fun _ => rfl)
  | 10, _ => .bare rfl rfl rfl
  | 11, _ => .word rfl (fun _ => rfl) (fun _ => rfl)
  | 12, _ => .word rfl (fun _ => rfl) (fun _ => rfl)
  | 13, _ => .word rfl (fun _ => rfl) (fun _ => rfl)
  | 14, _ => .word rfl (fun _ => rfl) (fun _ => rfl)
  | 15, _ => .word rfl (fun _ => rfl) (fun _ => rfl)
  | _ + 16, h => absurd h (by omega)

theorem shapeRight_row6 : ∀ n : Nat, n < 16 → ShapeRight (BitVec.ofNat 8 (0x60 + n))
  | 0, _ => .bare rfl rfl rfl
  | 1, _ => .byte rfl (fun _ => rfl) (fun _ => rfl)
  | 2, _ => .bare rfl rfl rfl
  | 3, _ => .byte rfl (fun _ => rfl) (fun _ => rfl)
  | 4, _ => .byte rfl (fun _ => rfl) (fun _ => rfl)
  | 5, _ => .byte rfl (fun _ => rfl) (fun _ => rfl)
  | 6, _ => .byte rfl (fun _ => rfl) (fun _ => rfl)
  | 7, _ => .byte rfl (fun _ => rfl) (fun _ => rfl)
  | 8, _ => .bare rfl rfl rfl
  | 9, _ => .byte rfl (fun _ => rfl) (fun _ => rfl)
  | 10, _ => .bare rfl rfl rfl
  | 11, _ => .bare rfl rfl rfl
  | 12, _ => .word rfl (fun _ => rfl) (fun _ => rfl)
  | 13, _ => .word rfl (fun _ => rfl) (fun _ => rfl)
  | 14, _ => .word rfl (fun _ => rfl) (fun _ => rfl)
  | 15, _ => .word rfl (fun _ => rfl) (fun _ => rfl)
  | _ + 16, h => absurd h (by omega)

theorem shapeRight_row7 : ∀ n : Nat, n < 16 → ShapeRight (BitVec.ofNat 8 (0x70 + n))
  | 0, _ => .byte rfl (fun _ => rfl) (fun _ => rfl)
  | 1, _ => .byte rfl (fun _ => rfl) (fun _ => rfl)
  | 2, _ => .bare rfl rfl rfl
  | 3, _ => .byte rfl (fun _ => rfl) (fun _ => rfl)
  | 4, _ => .byte rfl (fun _ => rfl) (fun _ => rfl)
  | 5, _ => .byte rfl (fun _ => rfl) (fun _ => rfl)
  | 6, _ => .byte rfl (fun _ => rfl) (fun _ => rfl)
  | 7, _ => .byte rfl (fun _ => rfl) (fun _ => rfl)
  | 8, _ => .bare rfl rfl rfl
  | 9, _ => .word rfl (fun _ => rfl) (fun _ => rfl)
  | 10, _ => .bare rfl rfl rfl
  | 11, _ => .word rfl (fun _ => rfl) (fun _ => rfl)
  | 12, _ => .word rfl (fun _ => rfl) (fun _ => rfl)
  | 13, _ => .word rfl (fun _ => rfl) (fun _ => rfl)
  | 14, _ => .word rfl (fun _ => rfl) (fun _ => rfl)
  | 15, _ => .word rfl (fun _ => rfl) (fun _ => rfl)
  | _ + 16, h => absurd h (by omega)

theorem shapeRight_row8 : ∀ n : Nat, n < 16 → ShapeRight (BitVec.ofNat 8 (0x80 + n))
  | 0, _ => .byte rfl (fun _ => rfl) (fun _ => rfl)
  | 1, _ => .byte rfl (fun _ => rfl) (fun _ => rfl)
  | 2, _ => .byte rfl (fun _ => rfl) (fun _ => rfl)
  | 3, _ => .byte rfl (fun _ => rfl) (fun _ => rfl)
  | 4, _ => .byte rfl (fun _ => rfl) (fun _ => rfl)
  | 5, _ => .byte rfl (fun _ => rfl) (fun _ => rfl)
  | 6, _ => .byte rfl (fun _ => rfl) (fun _ => rfl)
  | 7, _ => .byte rfl (fun _ => rfl) (fun _ => rfl)
  | 8, _ => .bare rfl rfl rfl
  | 9, _ => .byte rfl (fun _ => rfl) (fun _ => rfl)
  | 10, _ => .bare rfl rfl rfl
  | 11, _ => .bare rfl rfl rfl
  | 12, _ => .word rfl (fun _ => rfl) (fun _ => rfl)
  | 13, _ => .word rfl (fun _ => rfl) (fun _ => rfl)
  | 14, _ => .word rfl (fun _ => rfl) (fun _ => rfl)
  | 15, _ => .word rfl (fun _ => rfl) (fun _ => rfl)
  | _ + 16, h => absurd h (by omega)

theorem shapeRight_row9 : ∀ n : Nat, n < 16 → ShapeRight (BitVec.ofNat 8 (0x90 + n))
  | 0, _ => .byte rfl (fun _ => rfl) (fun _ => rfl)
  | 1, _ => .byte rfl (fun _ => rfl) (fun _ => rfl)
  | 2, _ => .bare rfl rfl rfl
  | 3, _ => .bare rfl rfl rfl
  | 4, _ => .byte rfl (fun _ => rfl) (fun _ => rfl)
  | 5, _ => .byte rfl (fun _ => rfl) (fun _ => rfl)
  | 6, _ => .byte rfl (fun _ => rfl) (fun _ => rfl)
  | 7, _ => .byte rfl (fun _ => rfl) (fun _ => rfl)
  | 8, _ => .bare rfl rfl rfl
  | 9, _ => .word rfl (fun _ => rfl) (fun _ => rfl)
  | 10, _ => .bare rfl rfl rfl
  | 11, _ => .bare rfl rfl rfl
  | 12, _ => .bare rfl rfl rfl
  | 13, _ => .word rfl (fun _ => rfl) (fun _ => rfl)
  | 14, _ => .bare rfl rfl rfl
  | 15, _ => .bare rfl rfl rfl
  | _ + 16, h => absurd h (by omega)

theorem shapeRight_rowA : ∀ n : Nat, n < 16 → ShapeRight (BitVec.ofNat 8 (0xA0 + n))
  | 0, _ => .byte rfl (fun _ => rfl) (fun _ => rfl)
  | 1, _ => .byte rfl (fun _ => rfl) (fun _ => rfl)
  | 2, _ => .byte rfl (fun _ => rfl) (fun _ => rfl)
  | 3, _ => .byte rfl (fun _ => rfl) (fun _ => rfl)
  | 4, _ => .byte rfl (fun _ => rfl) (fun _ => rfl)
  | 5, _ => .byte rfl (fun _ => rfl) (fun _ => rfl)
  | 6, _ => .byte rfl (fun _ => rfl) (fun _ => rfl)
  | 7, _ => .byte rfl (fun _ => rfl) (fun _ => rfl)
  | 8, _ => .bare rfl rfl rfl
  | 9, _ => .byte rfl (fun _ => rfl) (fun _ => rfl)
  | 10, _ => .bare rfl rfl rfl
  | 11, _ => .bare rfl rfl rfl
  | 12, _ => .word rfl (fun _ => rfl) (fun _ => rfl)
  | 13, _ => .word rfl (fun _ => rfl) (fun _ => rfl)
  | 14, _ => .word rfl (fun _ => rfl) (fun _ => rfl)
  | 15, _ => .word rfl (fun _ => rfl) (fun _ => rfl)
  | _ + 16, h => absurd h (by omega)

theorem shapeRight_rowB : ∀ n : Nat, n < 16 → ShapeRight (BitVec.ofNat 8 (0xB0 + n))
  | 0, _ => .byte rfl (fun _ => rfl) (fun _ => rfl)
  | 1, _ => .byte rfl (fun _ => rfl) (fun _ => rfl)
  | 2, _ => .bare rfl rfl rfl
  | 3, _ => .byte rfl (fun _ => rfl) (fun _ => rfl)
  | 4, _ => .byte rfl (fun _ => rfl) (fun _ => rfl)
  | 5, _ => .byte rfl (fun _ => rfl) (fun _ => rfl)
  | 6, _ => .byte rfl (fun _ => rfl) (fun _ => rfl)
  | 7, _ => .byte rfl (fun _ => rfl) (fun _ => rfl)
  | 8, _ => .bare rfl rfl rfl
  | 9, _ => .word rfl (fun _ => rfl) (fun _ => rfl)
  | 10, _ => .bare rfl rfl rfl
  | 11, _ => .bare rfl rfl rfl
  | 12, _ => .word rfl (fun _ => rfl) (fun _ => rfl)
  | 13, _ => .word rfl (fun _ => rfl) (fun _ => rfl)
  | 14, _ => .word rfl (fun _ => rfl) (fun _ => rfl)
  | 15, _ => .word rfl (fun _ => rfl) (fun _ => rfl)
  | _ + 16, h => absurd h (by omega)

theorem shapeRight_rowC : ∀ n : Nat, n < 16 → ShapeRight (BitVec.ofNat 8 (0xC0 + n))
  | 0, _ => .byte rfl (fun _ => rfl) (fun _ => rfl)
  | 1, _ => .byte rfl (fun _ => rfl) (fun _ => rfl)
  | 2, _ => .byte rfl (fun _ => rfl) (fun _ => rfl)
  | 3, _ => .byte rfl (fun _ => rfl) (fun _ => rfl)
  | 4, _ => .byte rfl (fun _ => rfl) (fun _ => rfl)
  | 5, _ => .byte rfl (fun _ => rfl) (fun _ => rfl)
  | 6, _ => .byte rfl (fun _ => rfl) (fun _ => rfl)
  | 7, _ => .byte rfl (fun _ => rfl) (fun _ => rfl)
  | 8, _ => .bare rfl rfl rfl
  | 9, _ => .byte rfl (fun _ => rfl) (fun _ => rfl)
  | 10, _ => .bare rfl rfl rfl
  | 11, _ => .bare rfl rfl rfl
  | 12, _ => .word rfl (fun _ => rfl) (fun _ => rfl)
  | 13, _ => .word rfl (fun _ => rfl) (fun _ => rfl)
  | 14, _ => .word rfl (fun _ => rfl) (fun _ => rfl)
  | 15, _ => .word rfl (fun _ => rfl) (fun _ => rfl)
  | _ + 16, h => absurd h (by omega)

theorem shapeRight_rowD : ∀ n : Nat, n < 16 → ShapeRight (BitVec.ofNat 8 (0xD0 + n))
  | 0, _ => .byte rfl (fun _ => rfl) (fun _ => rfl)
  | 1, _ => .byte rfl (fun _ => rfl) (fun _ => rfl)
  | 2, _ => .bare rfl rfl rfl
  | 3, _ => .byte rfl (fun _ => rfl) (fun _ => rfl)
  | 4, _ => .byte rfl (fun _ => rfl) (fun _ => rfl)
  | 5, _ => .byte rfl (fun _ => rfl) (fun _ => rfl)
  | 6, _ => .byte rfl (fun _ => rfl) (fun _ => rfl)
  | 7, _ => .byte rfl (fun _ => rfl) (fun _ => rfl)
  | 8, _ => .bare rfl rfl rfl
  | 9, _ => .word rfl (fun _ => rfl) (fun _ => rfl)
  | 10, _ => .bare rfl rfl rfl
  | 11, _ => .word rfl (fun _ => rfl) (fun _ => rfl)
  | 12, _ => .word rfl (fun _ => rfl) (fun _ => rfl)
  | 13, _ => .word rfl (fun _ => rfl) (fun _ => rfl)
  | 14, _ => .word rfl (fun _ => rfl) (fun _ => rfl)
  | 15, _ => .word rfl (fun _ => rfl) (fun _ => rfl)
  | _ + 16, h => absurd h (by omega)

theorem shapeRight_rowE : ∀ n : Nat, n < 16 → ShapeRight (BitVec.ofNat 8 (0xE0 + n))
  | 0, _ => .byte rfl (fun _ => rfl) (fun _ => rfl)
  | 1, _ => .byte rfl (fun _ => rfl) (fun _ => rfl)
  | 2, _ => .byte rfl (fun _ => rfl) (fun _ => rfl)
  | 3, _ => .byte rfl (fun _ => rfl) (fun _ => rfl)
  | 4, _ => .byte rfl (fun _ => rfl) (fun _ => rfl)
  | 5, _ => .byte rfl (fun _ => rfl) (fun _ => rfl)
  | 6, _ => .byte rfl (fun _ => rfl) (fun _ => rfl)
  | 7, _ => .byte rfl (fun _ => rfl) (fun _ => rfl)
  | 8, _ => .bare rfl rfl rfl
  | 9, _ => .byte rfl (fun _ => rfl) (fun _ => rfl)
  | 10, _ => .bare rfl rfl rfl
  | 11, _ => .byte rfl (fun _ => rfl) (fun _ => rfl)
  | 12, _ => .word rfl (fun _ => rfl) (fun _ => rfl)
  | 13, _ => .word rfl (fun _ => rfl) (fun _ => rfl)
  | 14, _ => .word rfl (fun _ => rfl) (fun _ => rfl)
  | 15, _ => .word rfl (fun _ => rfl) (fun _ => rfl)
  | _ + 16, h => absurd h (by omega)

theorem shapeRight_rowF : ∀ n : Nat, n < 16 → ShapeRight (BitVec.ofNat 8 (0xF0 + n))
  | 0, _ => .byte rfl (fun _ => rfl) (fun _ => rfl)
  | 1, _ => .byte rfl (fun _ => rfl) (fun _ => rfl)
  | 2, _ => .bare rfl rfl rfl
  | 3, _ => .byte rfl (fun _ => rfl) (fun _ => rfl)
  | 4, _ => .byte rfl (fun _ => rfl) (fun _ => rfl)
  | 5, _ => .byte rfl (fun _ => rfl) (fun _ => rfl)
  | 6, _ => .byte rfl (fun _ => rfl) (fun _ => rfl)
  | 7, _ => .byte rfl (fun _ => rfl) (fun _ => rfl)
  | 8, _ => .bare rfl rfl rfl
  | 9, _ => .word rfl (fun _ => rfl) (fun _ => rfl)
  | 10, _ => .bare rfl rfl rfl
  | 11, _ => .word rfl (fun _ => rfl) (fun _ => rfl)
  | 12, _ => .word rfl (fun _ => rfl) (fun _ => rfl)
  | 13, _ => .word rfl (fun _ => rfl) (fun _ => rfl)
  | 14, _ => .word rfl (fun _ => rfl) (fun _ => rfl)
  | 15, _ => .word rfl (fun _ => rfl) (fun _ => rfl)
  | _ + 16, h => absurd h (by omega)

/-- The lemma for every byte. -/
theorem shapeRight (op : Byte) : ShapeRight op := by
  have split : op = BitVec.ofNat 8 (16 * (op.toNat / 16) + op.toNat % 16) := by
    rw [Nat.div_add_mod, BitVec.ofNat_toNat, BitVec.setWidth_eq]
  have low : op.toNat % 16 < 16 := Nat.mod_lt _ (by decide)
  have high : op.toNat / 16 < 16 := by have := op.isLt; omega
  rw [split]
  generalize op.toNat % 16 = n at low ⊢
  generalize op.toNat / 16 = k at high ⊢
  match k, high with
  | 0, _ => exact shapeRight_row0 n low
  | 1, _ => exact shapeRight_row1 n low
  | 2, _ => exact shapeRight_row2 n low
  | 3, _ => exact shapeRight_row3 n low
  | 4, _ => exact shapeRight_row4 n low
  | 5, _ => exact shapeRight_row5 n low
  | 6, _ => exact shapeRight_row6 n low
  | 7, _ => exact shapeRight_row7 n low
  | 8, _ => exact shapeRight_row8 n low
  | 9, _ => exact shapeRight_row9 n low
  | 10, _ => exact shapeRight_rowA n low
  | 11, _ => exact shapeRight_rowB n low
  | 12, _ => exact shapeRight_rowC n low
  | 13, _ => exact shapeRight_rowD n low
  | 14, _ => exact shapeRight_rowE n low
  | 15, _ => exact shapeRight_rowF n low
  | _ + 16, h => omega

end Sys2Proof
end

