-- ==== Sys2Proof/Laws/Exec.lean ====
section
/-! SUPPORT. The dispatch in one inversion lemma, `exec_cases`: what `exec` is for an instruction, by the kind of operand
its handler takes. A proof about all instructions splits over kinds and handlers, not over the 256 constructors. -/

namespace Sys2Proof.Machine

/-- The semantic handler of an instruction, by the operand it takes. -/
inductive Kind where
  | read (h : Operand → State → State)
  | write (h : Place → State → State)
  | implied (h : State → State)
  | ignore
  | jump (h : Word → State → Next × State)
  | leave (h : Unit → State → Next × State)

/-- The handler of each mnemonic. -/
def kindOf : Mnemonic → Kind
  | .lda => .read handleLda
  | .ldx => .read handleLdx
  | .ldy => .read handleLdy
  | .adc => .read handleAdc
  | .sbc => .read handleSbc
  | .and => .read handleAnd
  | .ora => .read handleOra
  | .eor => .read handleEor
  | .bit => .read handleBit
  | .cmp => .read handleCmp
  | .cpx => .read handleCpx
  | .cpy => .read handleCpy
  | .lax => .read handleLax
  | .sbcUnofficial => .read handleSbc
  | .sta => .write handleSta
  | .stx => .write handleStx
  | .sty => .write handleSty
  | .sax => .write handleSax
  | .asl => .write handleAsl
  | .lsr => .write handleLsr
  | .rol => .write handleRol
  | .ror => .write handleRor
  | .inc => .write handleInc
  | .dec => .write handleDec
  | .slo => .write handleSlo
  | .rla => .write handleRla
  | .sre => .write handleSre
  | .rra => .write handleRra
  | .dcp => .write handleDcp
  | .isc => .write handleIsc
  | .tax => .implied handleTax
  | .tay => .implied handleTay
  | .txa => .implied handleTxa
  | .tya => .implied handleTya
  | .tsx => .implied handleTsx
  | .txs => .implied handleTxs
  | .inx => .implied handleInx
  | .iny => .implied handleIny
  | .dex => .implied handleDex
  | .dey => .implied handleDey
  | .pha => .implied handlePha
  | .php => .implied handlePhp
  | .pla => .implied handlePla
  | .plp => .implied handlePlp
  | .clc => .implied handleClc
  | .cld => .implied handleCld
  | .cli => .implied handleCli
  | .clv => .implied handleClv
  | .sec => .implied handleSec
  | .sed => .implied handleSed
  | .sei => .implied handleSei
  | .bcc => .jump handleBcc
  | .bcs => .jump handleBcs
  | .beq => .jump handleBeq
  | .bmi => .jump handleBmi
  | .bne => .jump handleBne
  | .bpl => .jump handleBpl
  | .bvc => .jump handleBvc
  | .bvs => .jump handleBvs
  | .jmp => .jump handleJmp
  | .jsr => .jump handleJsr
  | .rts => .leave handleRts
  | .brk => .leave handleBrk
  | .rti => .leave handleRti
  | .nop => .ignore
  | .nopUnofficial => .ignore

/-- The readable operand of a form. -/
def readForm (f : Form) (s : State) : Option (Resolved Operand) :=
  match f with
  | .imm v => some (immOperand v s)
  | .mem m => some (memOperand m s)
  | .imp | .acc | .ind _ | .rel _ => none

/-- The writable operand of a form. -/
def writeForm (f : Form) (s : State) : Option (Resolved Place) :=
  match f with
  | .acc => some (accPlace s)
  | .mem m => some (memPlace m s)
  | .imp | .imm _ | .ind _ | .rel _ => none

/-- The target of a form. -/
def jumpForm (f : Form) (s : State) : Option (Resolved Word) :=
  match f with
  | .mem (.abs addr) => some (absTarget addr s)
  | .ind addr => some (indTarget addr s)
  | .rel off => some (relTarget off s)
  | _ => none

/-- What `exec` is for one instruction: an unmapped byte raises IllegalOpcode; every other instruction has an entry whose
mnemonic's handler runs on the form's operand. -/
def Classified (i : Instr) (s : State) : Prop :=
  (i.entry = none ∧ exec i s = .next (raiseIllegal i.opcode s)) ∨
  ∃ e, i.entry = some e ∧
    ((∃ h r, kindOf e.instr = .read h ∧ readForm i.form s = some r ∧ exec i s = runSeq i.opcode r h) ∨
     (∃ h r, kindOf e.instr = .write h ∧ writeForm i.form s = some r ∧ exec i s = runSeq i.opcode r h) ∨
     (∃ h, kindOf e.instr = .implied h ∧ i.form = .imp ∧ exec i s = runImplied i.opcode h s) ∨
     (kindOf e.instr = .ignore ∧
        exec i s = .next (updatePc i.opcode .sequential
          (account i.opcode (crossOf i.form s) (resolvedState i.form s)))) ∨
     (∃ h r, kindOf e.instr = .jump h ∧ jumpForm i.form s = some r ∧ exec i s = run i.opcode r h) ∨
     (∃ h, kindOf e.instr = .leave h ∧ i.form = .imp ∧ exec i s = run i.opcode (noOperand s) h))

/-- The entry of an instruction from its opcode. -/
theorem entry_of {i : Instr} {op : Byte} {e : Option Entry} (h : i.opcode = op) (k : opcodeTable op = e) :
    i.entry = e := by
  subst h
  exact k

theorem Classified.illegal {i : Instr} {s : State} {op : Byte} (h : i.opcode = op) (k : opcodeTable op = none)
    (x : exec i s = .next (raiseIllegal op s)) : Classified i s := by
  subst h
  exact .inl ⟨k, x⟩

theorem Classified.read {i : Instr} {s : State} {op : Byte} {e : Entry} {h : Operand → State → State}
    {r : Resolved Operand} (ho : i.opcode = op) (k : opcodeTable op = some e) (hk : kindOf e.instr = .read h)
    (hr : readForm i.form s = some r) (x : exec i s = runSeq op r h) : Classified i s := by
  subst ho
  exact .inr ⟨e, k, .inl ⟨h, r, hk, hr, x⟩⟩

theorem Classified.write {i : Instr} {s : State} {op : Byte} {e : Entry} {h : Place → State → State}
    {r : Resolved Place} (ho : i.opcode = op) (k : opcodeTable op = some e) (hk : kindOf e.instr = .write h)
    (hr : writeForm i.form s = some r) (x : exec i s = runSeq op r h) : Classified i s := by
  subst ho
  exact .inr ⟨e, k, .inr (.inl ⟨h, r, hk, hr, x⟩)⟩

theorem Classified.implied {i : Instr} {s : State} {op : Byte} {e : Entry} {h : State → State}
    (ho : i.opcode = op) (k : opcodeTable op = some e) (hk : kindOf e.instr = .implied h)
    (hf : i.form = .imp) (x : exec i s = runImplied op h s) : Classified i s := by
  subst ho
  exact .inr ⟨e, k, .inr (.inr (.inl ⟨h, hk, hf, x⟩))⟩

theorem Classified.ignore {i : Instr} {s : State} {op : Byte} {e : Entry} {f : Form} (ho : i.opcode = op)
    (hf : i.form = f) (k : opcodeTable op = some e) (hk : kindOf e.instr = .ignore)
    (x : exec i s = .next (updatePc op .sequential (account op (crossOf f s) (resolvedState f s)))) :
    Classified i s := by
  subst ho hf
  exact .inr ⟨e, k, .inr (.inr (.inr (.inl ⟨hk, x⟩)))⟩

theorem Classified.jump {i : Instr} {s : State} {op : Byte} {e : Entry} {h : Word → State → Next × State}
    {r : Resolved Word} (ho : i.opcode = op) (k : opcodeTable op = some e) (hk : kindOf e.instr = .jump h)
    (hr : jumpForm i.form s = some r) (x : exec i s = run op r h) : Classified i s := by
  subst ho
  exact .inr ⟨e, k, .inr (.inr (.inr (.inr (.inl ⟨h, r, hk, hr, x⟩))))⟩

theorem Classified.leave {i : Instr} {s : State} {op : Byte} {e : Entry} {h : Unit → State → Next × State}
    (ho : i.opcode = op) (k : opcodeTable op = some e) (hk : kindOf e.instr = .leave h)
    (hf : i.form = .imp) (x : exec i s = run op (noOperand s) h) : Classified i s := by
  subst ho
  exact .inr ⟨e, k, .inr (.inr (.inr (.inr (.inr ⟨h, hk, hf, x⟩))))⟩

/-- Everything `exec` can be. -/
theorem exec_cases (i : Instr) (s : State) : Classified i s :=
  match i with
  | .brk => .leave (op := 0x00) (e := ⟨.brk, .imp, 2, 7, false, false⟩) rfl rfl rfl rfl rfl
  | .oraIndx _ => .read (op := 0x01) (e := ⟨.ora, .indx, 2, 6, false, false⟩) rfl rfl rfl rfl rfl
  | .illegal02 => .illegal rfl rfl rfl
  | .sloIndx _ => .write (op := 0x03) (e := ⟨.slo, .indx, 2, 8, false, true⟩) rfl rfl rfl rfl rfl
  | .nopZp04 _ => .ignore (op := 0x04) (e := ⟨.nopUnofficial, .zp, 2, 3, false, true⟩) rfl rfl rfl rfl rfl
  | .oraZp _ => .read (op := 0x05) (e := ⟨.ora, .zp, 2, 3, false, false⟩) rfl rfl rfl rfl rfl
  | .aslZp _ => .write (op := 0x06) (e := ⟨.asl, .zp, 2, 5, false, false⟩) rfl rfl rfl rfl rfl
  | .sloZp _ => .write (op := 0x07) (e := ⟨.slo, .zp, 2, 5, false, true⟩) rfl rfl rfl rfl rfl
  | .php => .implied (op := 0x08) (e := ⟨.php, .imp, 1, 3, false, false⟩) rfl rfl rfl rfl rfl
  | .oraImm _ => .read (op := 0x09) (e := ⟨.ora, .imm, 2, 2, false, false⟩) rfl rfl rfl rfl rfl
  | .aslAcc => .write (op := 0x0A) (e := ⟨.asl, .acc, 1, 2, false, false⟩) rfl rfl rfl rfl rfl
  | .illegal0B => .illegal rfl rfl rfl
  | .nopAbs0C _ => .ignore (op := 0x0C) (e := ⟨.nopUnofficial, .abs, 3, 4, false, true⟩) rfl rfl rfl rfl rfl
  | .oraAbs _ => .read (op := 0x0D) (e := ⟨.ora, .abs, 3, 4, false, false⟩) rfl rfl rfl rfl rfl
  | .aslAbs _ => .write (op := 0x0E) (e := ⟨.asl, .abs, 3, 6, false, false⟩) rfl rfl rfl rfl rfl
  | .sloAbs _ => .write (op := 0x0F) (e := ⟨.slo, .abs, 3, 6, false, true⟩) rfl rfl rfl rfl rfl
  | .bpl _ => .jump (op := 0x10) (e := ⟨.bpl, .rel, 2, 2, false, false⟩) rfl rfl rfl rfl rfl
  | .oraIndy _ => .read (op := 0x11) (e := ⟨.ora, .indy, 2, 5, true, false⟩) rfl rfl rfl rfl rfl
  | .illegal12 => .illegal rfl rfl rfl
  | .sloIndy _ => .write (op := 0x13) (e := ⟨.slo, .indy, 2, 8, false, true⟩) rfl rfl rfl rfl rfl
  | .nopZpx14 _ => .ignore (op := 0x14) (e := ⟨.nopUnofficial, .zpx, 2, 4, false, true⟩) rfl rfl rfl rfl rfl
  | .oraZpx _ => .read (op := 0x15) (e := ⟨.ora, .zpx, 2, 4, false, false⟩) rfl rfl rfl rfl rfl
  | .aslZpx _ => .write (op := 0x16) (e := ⟨.asl, .zpx, 2, 6, false, false⟩) rfl rfl rfl rfl rfl
  | .sloZpx _ => .write (op := 0x17) (e := ⟨.slo, .zpx, 2, 6, false, true⟩) rfl rfl rfl rfl rfl
  | .clc => .implied (op := 0x18) (e := ⟨.clc, .imp, 1, 2, false, false⟩) rfl rfl rfl rfl rfl
  | .oraAbsy _ => .read (op := 0x19) (e := ⟨.ora, .absy, 3, 4, true, false⟩) rfl rfl rfl rfl rfl
  | .nopImp1A => .ignore (op := 0x1A) (e := ⟨.nopUnofficial, .imp, 1, 2, false, true⟩) rfl rfl rfl rfl rfl
  | .sloAbsy _ => .write (op := 0x1B) (e := ⟨.slo, .absy, 3, 7, false, true⟩) rfl rfl rfl rfl rfl
  | .nopAbsx1C _ => .ignore (op := 0x1C) (e := ⟨.nopUnofficial, .absx, 3, 4, true, true⟩) rfl rfl rfl rfl rfl
  | .oraAbsx _ => .read (op := 0x1D) (e := ⟨.ora, .absx, 3, 4, true, false⟩) rfl rfl rfl rfl rfl
  | .aslAbsx _ => .write (op := 0x1E) (e := ⟨.asl, .absx, 3, 7, false, false⟩) rfl rfl rfl rfl rfl
  | .sloAbsx _ => .write (op := 0x1F) (e := ⟨.slo, .absx, 3, 7, false, true⟩) rfl rfl rfl rfl rfl
  | .jsr _ => .jump (op := 0x20) (e := ⟨.jsr, .abs, 3, 6, false, false⟩) rfl rfl rfl rfl rfl
  | .andIndx _ => .read (op := 0x21) (e := ⟨.and, .indx, 2, 6, false, false⟩) rfl rfl rfl rfl rfl
  | .illegal22 => .illegal rfl rfl rfl
  | .rlaIndx _ => .write (op := 0x23) (e := ⟨.rla, .indx, 2, 8, false, true⟩) rfl rfl rfl rfl rfl
  | .bitZp _ => .read (op := 0x24) (e := ⟨.bit, .zp, 2, 3, false, false⟩) rfl rfl rfl rfl rfl
  | .andZp _ => .read (op := 0x25) (e := ⟨.and, .zp, 2, 3, false, false⟩) rfl rfl rfl rfl rfl
  | .rolZp _ => .write (op := 0x26) (e := ⟨.rol, .zp, 2, 5, false, false⟩) rfl rfl rfl rfl rfl
  | .rlaZp _ => .write (op := 0x27) (e := ⟨.rla, .zp, 2, 5, false, true⟩) rfl rfl rfl rfl rfl
  | .plp => .implied (op := 0x28) (e := ⟨.plp, .imp, 1, 4, false, false⟩) rfl rfl rfl rfl rfl
  | .andImm _ => .read (op := 0x29) (e := ⟨.and, .imm, 2, 2, false, false⟩) rfl rfl rfl rfl rfl
  | .rolAcc => .write (op := 0x2A) (e := ⟨.rol, .acc, 1, 2, false, false⟩) rfl rfl rfl rfl rfl
  | .illegal2B => .illegal rfl rfl rfl
  | .bitAbs _ => .read (op := 0x2C) (e := ⟨.bit, .abs, 3, 4, false, false⟩) rfl rfl rfl rfl rfl
  | .andAbs _ => .read (op := 0x2D) (e := ⟨.and, .abs, 3, 4, false, false⟩) rfl rfl rfl rfl rfl
  | .rolAbs _ => .write (op := 0x2E) (e := ⟨.rol, .abs, 3, 6, false, false⟩) rfl rfl rfl rfl rfl
  | .rlaAbs _ => .write (op := 0x2F) (e := ⟨.rla, .abs, 3, 6, false, true⟩) rfl rfl rfl rfl rfl
  | .bmi _ => .jump (op := 0x30) (e := ⟨.bmi, .rel, 2, 2, false, false⟩) rfl rfl rfl rfl rfl
  | .andIndy _ => .read (op := 0x31) (e := ⟨.and, .indy, 2, 5, true, false⟩) rfl rfl rfl rfl rfl
  | .illegal32 => .illegal rfl rfl rfl
  | .rlaIndy _ => .write (op := 0x33) (e := ⟨.rla, .indy, 2, 8, false, true⟩) rfl rfl rfl rfl rfl
  | .nopZpx34 _ => .ignore (op := 0x34) (e := ⟨.nopUnofficial, .zpx, 2, 4, false, true⟩) rfl rfl rfl rfl rfl
  | .andZpx _ => .read (op := 0x35) (e := ⟨.and, .zpx, 2, 4, false, false⟩) rfl rfl rfl rfl rfl
  | .rolZpx _ => .write (op := 0x36) (e := ⟨.rol, .zpx, 2, 6, false, false⟩) rfl rfl rfl rfl rfl
  | .rlaZpx _ => .write (op := 0x37) (e := ⟨.rla, .zpx, 2, 6, false, true⟩) rfl rfl rfl rfl rfl
  | .sec => .implied (op := 0x38) (e := ⟨.sec, .imp, 1, 2, false, false⟩) rfl rfl rfl rfl rfl
  | .andAbsy _ => .read (op := 0x39) (e := ⟨.and, .absy, 3, 4, true, false⟩) rfl rfl rfl rfl rfl
  | .nopImp3A => .ignore (op := 0x3A) (e := ⟨.nopUnofficial, .imp, 1, 2, false, true⟩) rfl rfl rfl rfl rfl
  | .rlaAbsy _ => .write (op := 0x3B) (e := ⟨.rla, .absy, 3, 7, false, true⟩) rfl rfl rfl rfl rfl
  | .nopAbsx3C _ => .ignore (op := 0x3C) (e := ⟨.nopUnofficial, .absx, 3, 4, true, true⟩) rfl rfl rfl rfl rfl
  | .andAbsx _ => .read (op := 0x3D) (e := ⟨.and, .absx, 3, 4, true, false⟩) rfl rfl rfl rfl rfl
  | .rolAbsx _ => .write (op := 0x3E) (e := ⟨.rol, .absx, 3, 7, false, false⟩) rfl rfl rfl rfl rfl
  | .rlaAbsx _ => .write (op := 0x3F) (e := ⟨.rla, .absx, 3, 7, false, true⟩) rfl rfl rfl rfl rfl
  | .rti => .leave (op := 0x40) (e := ⟨.rti, .imp, 1, 6, false, false⟩) rfl rfl rfl rfl rfl
  | .eorIndx _ => .read (op := 0x41) (e := ⟨.eor, .indx, 2, 6, false, false⟩) rfl rfl rfl rfl rfl
  | .illegal42 => .illegal rfl rfl rfl
  | .sreIndx _ => .write (op := 0x43) (e := ⟨.sre, .indx, 2, 8, false, true⟩) rfl rfl rfl rfl rfl
  | .nopZp44 _ => .ignore (op := 0x44) (e := ⟨.nopUnofficial, .zp, 2, 3, false, true⟩) rfl rfl rfl rfl rfl
  | .eorZp _ => .read (op := 0x45) (e := ⟨.eor, .zp, 2, 3, false, false⟩) rfl rfl rfl rfl rfl
  | .lsrZp _ => .write (op := 0x46) (e := ⟨.lsr, .zp, 2, 5, false, false⟩) rfl rfl rfl rfl rfl
  | .sreZp _ => .write (op := 0x47) (e := ⟨.sre, .zp, 2, 5, false, true⟩) rfl rfl rfl rfl rfl
  | .pha => .implied (op := 0x48) (e := ⟨.pha, .imp, 1, 3, false, false⟩) rfl rfl rfl rfl rfl
  | .eorImm _ => .read (op := 0x49) (e := ⟨.eor, .imm, 2, 2, false, false⟩) rfl rfl rfl rfl rfl
  | .lsrAcc => .write (op := 0x4A) (e := ⟨.lsr, .acc, 1, 2, false, false⟩) rfl rfl rfl rfl rfl
  | .illegal4B => .illegal rfl rfl rfl
  | .jmpAbs _ => .jump (op := 0x4C) (e := ⟨.jmp, .abs, 3, 3, false, false⟩) rfl rfl rfl rfl rfl
  | .eorAbs _ => .read (op := 0x4D) (e := ⟨.eor, .abs, 3, 4, false, false⟩) rfl rfl rfl rfl rfl
  | .lsrAbs _ => .write (op := 0x4E) (e := ⟨.lsr, .abs, 3, 6, false, false⟩) rfl rfl rfl rfl rfl
  | .sreAbs _ => .write (op := 0x4F) (e := ⟨.sre, .abs, 3, 6, false, true⟩) rfl rfl rfl rfl rfl
  | .bvc _ => .jump (op := 0x50) (e := ⟨.bvc, .rel, 2, 2, false, false⟩) rfl rfl rfl rfl rfl
  | .eorIndy _ => .read (op := 0x51) (e := ⟨.eor, .indy, 2, 5, true, false⟩) rfl rfl rfl rfl rfl
  | .illegal52 => .illegal rfl rfl rfl
  | .sreIndy _ => .write (op := 0x53) (e := ⟨.sre, .indy, 2, 8, false, true⟩) rfl rfl rfl rfl rfl
  | .nopZpx54 _ => .ignore (op := 0x54) (e := ⟨.nopUnofficial, .zpx, 2, 4, false, true⟩) rfl rfl rfl rfl rfl
  | .eorZpx _ => .read (op := 0x55) (e := ⟨.eor, .zpx, 2, 4, false, false⟩) rfl rfl rfl rfl rfl
  | .lsrZpx _ => .write (op := 0x56) (e := ⟨.lsr, .zpx, 2, 6, false, false⟩) rfl rfl rfl rfl rfl
  | .sreZpx _ => .write (op := 0x57) (e := ⟨.sre, .zpx, 2, 6, false, true⟩) rfl rfl rfl rfl rfl
  | .cli => .implied (op := 0x58) (e := ⟨.cli, .imp, 1, 2, false, false⟩) rfl rfl rfl rfl rfl
  | .eorAbsy _ => .read (op := 0x59) (e := ⟨.eor, .absy, 3, 4, true, false⟩) rfl rfl rfl rfl rfl
  | .nopImp5A => .ignore (op := 0x5A) (e := ⟨.nopUnofficial, .imp, 1, 2, false, true⟩) rfl rfl rfl rfl rfl
  | .sreAbsy _ => .write (op := 0x5B) (e := ⟨.sre, .absy, 3, 7, false, true⟩) rfl rfl rfl rfl rfl
  | .nopAbsx5C _ => .ignore (op := 0x5C) (e := ⟨.nopUnofficial, .absx, 3, 4, true, true⟩) rfl rfl rfl rfl rfl
  | .eorAbsx _ => .read (op := 0x5D) (e := ⟨.eor, .absx, 3, 4, true, false⟩) rfl rfl rfl rfl rfl
  | .lsrAbsx _ => .write (op := 0x5E) (e := ⟨.lsr, .absx, 3, 7, false, false⟩) rfl rfl rfl rfl rfl
  | .sreAbsx _ => .write (op := 0x5F) (e := ⟨.sre, .absx, 3, 7, false, true⟩) rfl rfl rfl rfl rfl
  | .rts => .leave (op := 0x60) (e := ⟨.rts, .imp, 1, 6, false, false⟩) rfl rfl rfl rfl rfl
  | .adcIndx _ => .read (op := 0x61) (e := ⟨.adc, .indx, 2, 6, false, false⟩) rfl rfl rfl rfl rfl
  | .illegal62 => .illegal rfl rfl rfl
  | .rraIndx _ => .write (op := 0x63) (e := ⟨.rra, .indx, 2, 8, false, true⟩) rfl rfl rfl rfl rfl
  | .nopZp64 _ => .ignore (op := 0x64) (e := ⟨.nopUnofficial, .zp, 2, 3, false, true⟩) rfl rfl rfl rfl rfl
  | .adcZp _ => .read (op := 0x65) (e := ⟨.adc, .zp, 2, 3, false, false⟩) rfl rfl rfl rfl rfl
  | .rorZp _ => .write (op := 0x66) (e := ⟨.ror, .zp, 2, 5, false, false⟩) rfl rfl rfl rfl rfl
  | .rraZp _ => .write (op := 0x67) (e := ⟨.rra, .zp, 2, 5, false, true⟩) rfl rfl rfl rfl rfl
  | .pla => .implied (op := 0x68) (e := ⟨.pla, .imp, 1, 4, false, false⟩) rfl rfl rfl rfl rfl
  | .adcImm _ => .read (op := 0x69) (e := ⟨.adc, .imm, 2, 2, false, false⟩) rfl rfl rfl rfl rfl
  | .rorAcc => .write (op := 0x6A) (e := ⟨.ror, .acc, 1, 2, false, false⟩) rfl rfl rfl rfl rfl
  | .illegal6B => .illegal rfl rfl rfl
  | .jmpInd _ => .jump (op := 0x6C) (e := ⟨.jmp, .ind, 3, 5, false, false⟩) rfl rfl rfl rfl rfl
  | .adcAbs _ => .read (op := 0x6D) (e := ⟨.adc, .abs, 3, 4, false, false⟩) rfl rfl rfl rfl rfl
  | .rorAbs _ => .write (op := 0x6E) (e := ⟨.ror, .abs, 3, 6, false, false⟩) rfl rfl rfl rfl rfl
  | .rraAbs _ => .write (op := 0x6F) (e := ⟨.rra, .abs, 3, 6, false, true⟩) rfl rfl rfl rfl rfl
  | .bvs _ => .jump (op := 0x70) (e := ⟨.bvs, .rel, 2, 2, false, false⟩) rfl rfl rfl rfl rfl
  | .adcIndy _ => .read (op := 0x71) (e := ⟨.adc, .indy, 2, 5, true, false⟩) rfl rfl rfl rfl rfl
  | .illegal72 => .illegal rfl rfl rfl
  | .rraIndy _ => .write (op := 0x73) (e := ⟨.rra, .indy, 2, 8, false, true⟩) rfl rfl rfl rfl rfl
  | .nopZpx74 _ => .ignore (op := 0x74) (e := ⟨.nopUnofficial, .zpx, 2, 4, false, true⟩) rfl rfl rfl rfl rfl
  | .adcZpx _ => .read (op := 0x75) (e := ⟨.adc, .zpx, 2, 4, false, false⟩) rfl rfl rfl rfl rfl
  | .rorZpx _ => .write (op := 0x76) (e := ⟨.ror, .zpx, 2, 6, false, false⟩) rfl rfl rfl rfl rfl
  | .rraZpx _ => .write (op := 0x77) (e := ⟨.rra, .zpx, 2, 6, false, true⟩) rfl rfl rfl rfl rfl
  | .sei => .implied (op := 0x78) (e := ⟨.sei, .imp, 1, 2, false, false⟩) rfl rfl rfl rfl rfl
  | .adcAbsy _ => .read (op := 0x79) (e := ⟨.adc, .absy, 3, 4, true, false⟩) rfl rfl rfl rfl rfl
  | .nopImp7A => .ignore (op := 0x7A) (e := ⟨.nopUnofficial, .imp, 1, 2, false, true⟩) rfl rfl rfl rfl rfl
  | .rraAbsy _ => .write (op := 0x7B) (e := ⟨.rra, .absy, 3, 7, false, true⟩) rfl rfl rfl rfl rfl
  | .nopAbsx7C _ => .ignore (op := 0x7C) (e := ⟨.nopUnofficial, .absx, 3, 4, true, true⟩) rfl rfl rfl rfl rfl
  | .adcAbsx _ => .read (op := 0x7D) (e := ⟨.adc, .absx, 3, 4, true, false⟩) rfl rfl rfl rfl rfl
  | .rorAbsx _ => .write (op := 0x7E) (e := ⟨.ror, .absx, 3, 7, false, false⟩) rfl rfl rfl rfl rfl
  | .rraAbsx _ => .write (op := 0x7F) (e := ⟨.rra, .absx, 3, 7, false, true⟩) rfl rfl rfl rfl rfl
  | .nopImm80 _ => .ignore (op := 0x80) (e := ⟨.nopUnofficial, .imm, 2, 2, false, true⟩) rfl rfl rfl rfl rfl
  | .staIndx _ => .write (op := 0x81) (e := ⟨.sta, .indx, 2, 6, false, false⟩) rfl rfl rfl rfl rfl
  | .nopImm82 _ => .ignore (op := 0x82) (e := ⟨.nopUnofficial, .imm, 2, 2, false, true⟩) rfl rfl rfl rfl rfl
  | .saxIndx _ => .write (op := 0x83) (e := ⟨.sax, .indx, 2, 6, false, true⟩) rfl rfl rfl rfl rfl
  | .styZp _ => .write (op := 0x84) (e := ⟨.sty, .zp, 2, 3, false, false⟩) rfl rfl rfl rfl rfl
  | .staZp _ => .write (op := 0x85) (e := ⟨.sta, .zp, 2, 3, false, false⟩) rfl rfl rfl rfl rfl
  | .stxZp _ => .write (op := 0x86) (e := ⟨.stx, .zp, 2, 3, false, false⟩) rfl rfl rfl rfl rfl
  | .saxZp _ => .write (op := 0x87) (e := ⟨.sax, .zp, 2, 3, false, true⟩) rfl rfl rfl rfl rfl
  | .dey => .implied (op := 0x88) (e := ⟨.dey, .imp, 1, 2, false, false⟩) rfl rfl rfl rfl rfl
  | .nopImm89 _ => .ignore (op := 0x89) (e := ⟨.nopUnofficial, .imm, 2, 2, false, true⟩) rfl rfl rfl rfl rfl
  | .txa => .implied (op := 0x8A) (e := ⟨.txa, .imp, 1, 2, false, false⟩) rfl rfl rfl rfl rfl
  | .illegal8B => .illegal rfl rfl rfl
  | .styAbs _ => .write (op := 0x8C) (e := ⟨.sty, .abs, 3, 4, false, false⟩) rfl rfl rfl rfl rfl
  | .staAbs _ => .write (op := 0x8D) (e := ⟨.sta, .abs, 3, 4, false, false⟩) rfl rfl rfl rfl rfl
  | .stxAbs _ => .write (op := 0x8E) (e := ⟨.stx, .abs, 3, 4, false, false⟩) rfl rfl rfl rfl rfl
  | .saxAbs _ => .write (op := 0x8F) (e := ⟨.sax, .abs, 3, 4, false, true⟩) rfl rfl rfl rfl rfl
  | .bcc _ => .jump (op := 0x90) (e := ⟨.bcc, .rel, 2, 2, false, false⟩) rfl rfl rfl rfl rfl
  | .staIndy _ => .write (op := 0x91) (e := ⟨.sta, .indy, 2, 6, false, false⟩) rfl rfl rfl rfl rfl
  | .illegal92 => .illegal rfl rfl rfl
  | .illegal93 => .illegal rfl rfl rfl
  | .styZpx _ => .write (op := 0x94) (e := ⟨.sty, .zpx, 2, 4, false, false⟩) rfl rfl rfl rfl rfl
  | .staZpx _ => .write (op := 0x95) (e := ⟨.sta, .zpx, 2, 4, false, false⟩) rfl rfl rfl rfl rfl
  | .stxZpy _ => .write (op := 0x96) (e := ⟨.stx, .zpy, 2, 4, false, false⟩) rfl rfl rfl rfl rfl
  | .saxZpy _ => .write (op := 0x97) (e := ⟨.sax, .zpy, 2, 4, false, true⟩) rfl rfl rfl rfl rfl
  | .tya => .implied (op := 0x98) (e := ⟨.tya, .imp, 1, 2, false, false⟩) rfl rfl rfl rfl rfl
  | .staAbsy _ => .write (op := 0x99) (e := ⟨.sta, .absy, 3, 5, false, false⟩) rfl rfl rfl rfl rfl
  | .txs => .implied (op := 0x9A) (e := ⟨.txs, .imp, 1, 2, false, false⟩) rfl rfl rfl rfl rfl
  | .illegal9B => .illegal rfl rfl rfl
  | .illegal9C => .illegal rfl rfl rfl
  | .staAbsx _ => .write (op := 0x9D) (e := ⟨.sta, .absx, 3, 5, false, false⟩) rfl rfl rfl rfl rfl
  | .illegal9E => .illegal rfl rfl rfl
  | .illegal9F => .illegal rfl rfl rfl
  | .ldyImm _ => .read (op := 0xA0) (e := ⟨.ldy, .imm, 2, 2, false, false⟩) rfl rfl rfl rfl rfl
  | .ldaIndx _ => .read (op := 0xA1) (e := ⟨.lda, .indx, 2, 6, false, false⟩) rfl rfl rfl rfl rfl
  | .ldxImm _ => .read (op := 0xA2) (e := ⟨.ldx, .imm, 2, 2, false, false⟩) rfl rfl rfl rfl rfl
  | .laxIndx _ => .read (op := 0xA3) (e := ⟨.lax, .indx, 2, 6, false, true⟩) rfl rfl rfl rfl rfl
  | .ldyZp _ => .read (op := 0xA4) (e := ⟨.ldy, .zp, 2, 3, false, false⟩) rfl rfl rfl rfl rfl
  | .ldaZp _ => .read (op := 0xA5) (e := ⟨.lda, .zp, 2, 3, false, false⟩) rfl rfl rfl rfl rfl
  | .ldxZp _ => .read (op := 0xA6) (e := ⟨.ldx, .zp, 2, 3, false, false⟩) rfl rfl rfl rfl rfl
  | .laxZp _ => .read (op := 0xA7) (e := ⟨.lax, .zp, 2, 3, false, true⟩) rfl rfl rfl rfl rfl
  | .tay => .implied (op := 0xA8) (e := ⟨.tay, .imp, 1, 2, false, false⟩) rfl rfl rfl rfl rfl
  | .ldaImm _ => .read (op := 0xA9) (e := ⟨.lda, .imm, 2, 2, false, false⟩) rfl rfl rfl rfl rfl
  | .tax => .implied (op := 0xAA) (e := ⟨.tax, .imp, 1, 2, false, false⟩) rfl rfl rfl rfl rfl
  | .illegalAB => .illegal rfl rfl rfl
  | .ldyAbs _ => .read (op := 0xAC) (e := ⟨.ldy, .abs, 3, 4, false, false⟩) rfl rfl rfl rfl rfl
  | .ldaAbs _ => .read (op := 0xAD) (e := ⟨.lda, .abs, 3, 4, false, false⟩) rfl rfl rfl rfl rfl
  | .ldxAbs _ => .read (op := 0xAE) (e := ⟨.ldx, .abs, 3, 4, false, false⟩) rfl rfl rfl rfl rfl
  | .laxAbs _ => .read (op := 0xAF) (e := ⟨.lax, .abs, 3, 4, false, true⟩) rfl rfl rfl rfl rfl
  | .bcs _ => .jump (op := 0xB0) (e := ⟨.bcs, .rel, 2, 2, false, false⟩) rfl rfl rfl rfl rfl
  | .ldaIndy _ => .read (op := 0xB1) (e := ⟨.lda, .indy, 2, 5, true, false⟩) rfl rfl rfl rfl rfl
  | .illegalB2 => .illegal rfl rfl rfl
  | .laxIndy _ => .read (op := 0xB3) (e := ⟨.lax, .indy, 2, 5, true, true⟩) rfl rfl rfl rfl rfl
  | .ldyZpx _ => .read (op := 0xB4) (e := ⟨.ldy, .zpx, 2, 4, false, false⟩) rfl rfl rfl rfl rfl
  | .ldaZpx _ => .read (op := 0xB5) (e := ⟨.lda, .zpx, 2, 4, false, false⟩) rfl rfl rfl rfl rfl
  | .ldxZpy _ => .read (op := 0xB6) (e := ⟨.ldx, .zpy, 2, 4, false, false⟩) rfl rfl rfl rfl rfl
  | .laxZpy _ => .read (op := 0xB7) (e := ⟨.lax, .zpy, 2, 4, false, true⟩) rfl rfl rfl rfl rfl
  | .clv => .implied (op := 0xB8) (e := ⟨.clv, .imp, 1, 2, false, false⟩) rfl rfl rfl rfl rfl
  | .ldaAbsy _ => .read (op := 0xB9) (e := ⟨.lda, .absy, 3, 4, true, false⟩) rfl rfl rfl rfl rfl
  | .tsx => .implied (op := 0xBA) (e := ⟨.tsx, .imp, 1, 2, false, false⟩) rfl rfl rfl rfl rfl
  | .illegalBB => .illegal rfl rfl rfl
  | .ldyAbsx _ => .read (op := 0xBC) (e := ⟨.ldy, .absx, 3, 4, true, false⟩) rfl rfl rfl rfl rfl
  | .ldaAbsx _ => .read (op := 0xBD) (e := ⟨.lda, .absx, 3, 4, true, false⟩) rfl rfl rfl rfl rfl
  | .ldxAbsy _ => .read (op := 0xBE) (e := ⟨.ldx, .absy, 3, 4, true, false⟩) rfl rfl rfl rfl rfl
  | .laxAbsy _ => .read (op := 0xBF) (e := ⟨.lax, .absy, 3, 4, true, true⟩) rfl rfl rfl rfl rfl
  | .cpyImm _ => .read (op := 0xC0) (e := ⟨.cpy, .imm, 2, 2, false, false⟩) rfl rfl rfl rfl rfl
  | .cmpIndx _ => .read (op := 0xC1) (e := ⟨.cmp, .indx, 2, 6, false, false⟩) rfl rfl rfl rfl rfl
  | .nopImmC2 _ => .ignore (op := 0xC2) (e := ⟨.nopUnofficial, .imm, 2, 2, false, true⟩) rfl rfl rfl rfl rfl
  | .dcpIndx _ => .write (op := 0xC3) (e := ⟨.dcp, .indx, 2, 8, false, true⟩) rfl rfl rfl rfl rfl
  | .cpyZp _ => .read (op := 0xC4) (e := ⟨.cpy, .zp, 2, 3, false, false⟩) rfl rfl rfl rfl rfl
  | .cmpZp _ => .read (op := 0xC5) (e := ⟨.cmp, .zp, 2, 3, false, false⟩) rfl rfl rfl rfl rfl
  | .decZp _ => .write (op := 0xC6) (e := ⟨.dec, .zp, 2, 5, false, false⟩) rfl rfl rfl rfl rfl
  | .dcpZp _ => .write (op := 0xC7) (e := ⟨.dcp, .zp, 2, 5, false, true⟩) rfl rfl rfl rfl rfl
  | .iny => .implied (op := 0xC8) (e := ⟨.iny, .imp, 1, 2, false, false⟩) rfl rfl rfl rfl rfl
  | .cmpImm _ => .read (op := 0xC9) (e := ⟨.cmp, .imm, 2, 2, false, false⟩) rfl rfl rfl rfl rfl
  | .dex => .implied (op := 0xCA) (e := ⟨.dex, .imp, 1, 2, false, false⟩) rfl rfl rfl rfl rfl
  | .illegalCB => .illegal rfl rfl rfl
  | .cpyAbs _ => .read (op := 0xCC) (e := ⟨.cpy, .abs, 3, 4, false, false⟩) rfl rfl rfl rfl rfl
  | .cmpAbs _ => .read (op := 0xCD) (e := ⟨.cmp, .abs, 3, 4, false, false⟩) rfl rfl rfl rfl rfl
  | .decAbs _ => .write (op := 0xCE) (e := ⟨.dec, .abs, 3, 6, false, false⟩) rfl rfl rfl rfl rfl
  | .dcpAbs _ => .write (op := 0xCF) (e := ⟨.dcp, .abs, 3, 6, false, true⟩) rfl rfl rfl rfl rfl
  | .bne _ => .jump (op := 0xD0) (e := ⟨.bne, .rel, 2, 2, false, false⟩) rfl rfl rfl rfl rfl
  | .cmpIndy _ => .read (op := 0xD1) (e := ⟨.cmp, .indy, 2, 5, true, false⟩) rfl rfl rfl rfl rfl
  | .illegalD2 => .illegal rfl rfl rfl
  | .dcpIndy _ => .write (op := 0xD3) (e := ⟨.dcp, .indy, 2, 8, false, true⟩) rfl rfl rfl rfl rfl
  | .nopZpxD4 _ => .ignore (op := 0xD4) (e := ⟨.nopUnofficial, .zpx, 2, 4, false, true⟩) rfl rfl rfl rfl rfl
  | .cmpZpx _ => .read (op := 0xD5) (e := ⟨.cmp, .zpx, 2, 4, false, false⟩) rfl rfl rfl rfl rfl
  | .decZpx _ => .write (op := 0xD6) (e := ⟨.dec, .zpx, 2, 6, false, false⟩) rfl rfl rfl rfl rfl
  | .dcpZpx _ => .write (op := 0xD7) (e := ⟨.dcp, .zpx, 2, 6, false, true⟩) rfl rfl rfl rfl rfl
  | .cld => .implied (op := 0xD8) (e := ⟨.cld, .imp, 1, 2, false, false⟩) rfl rfl rfl rfl rfl
  | .cmpAbsy _ => .read (op := 0xD9) (e := ⟨.cmp, .absy, 3, 4, true, false⟩) rfl rfl rfl rfl rfl
  | .nopImpDA => .ignore (op := 0xDA) (e := ⟨.nopUnofficial, .imp, 1, 2, false, true⟩) rfl rfl rfl rfl rfl
  | .dcpAbsy _ => .write (op := 0xDB) (e := ⟨.dcp, .absy, 3, 7, false, true⟩) rfl rfl rfl rfl rfl
  | .nopAbsxDC _ => .ignore (op := 0xDC) (e := ⟨.nopUnofficial, .absx, 3, 4, true, true⟩) rfl rfl rfl rfl rfl
  | .cmpAbsx _ => .read (op := 0xDD) (e := ⟨.cmp, .absx, 3, 4, true, false⟩) rfl rfl rfl rfl rfl
  | .decAbsx _ => .write (op := 0xDE) (e := ⟨.dec, .absx, 3, 7, false, false⟩) rfl rfl rfl rfl rfl
  | .dcpAbsx _ => .write (op := 0xDF) (e := ⟨.dcp, .absx, 3, 7, false, true⟩) rfl rfl rfl rfl rfl
  | .cpxImm _ => .read (op := 0xE0) (e := ⟨.cpx, .imm, 2, 2, false, false⟩) rfl rfl rfl rfl rfl
  | .sbcIndx _ => .read (op := 0xE1) (e := ⟨.sbc, .indx, 2, 6, false, false⟩) rfl rfl rfl rfl rfl
  | .nopImmE2 _ => .ignore (op := 0xE2) (e := ⟨.nopUnofficial, .imm, 2, 2, false, true⟩) rfl rfl rfl rfl rfl
  | .iscIndx _ => .write (op := 0xE3) (e := ⟨.isc, .indx, 2, 8, false, true⟩) rfl rfl rfl rfl rfl
  | .cpxZp _ => .read (op := 0xE4) (e := ⟨.cpx, .zp, 2, 3, false, false⟩) rfl rfl rfl rfl rfl
  | .sbcZp _ => .read (op := 0xE5) (e := ⟨.sbc, .zp, 2, 3, false, false⟩) rfl rfl rfl rfl rfl
  | .incZp _ => .write (op := 0xE6) (e := ⟨.inc, .zp, 2, 5, false, false⟩) rfl rfl rfl rfl rfl
  | .iscZp _ => .write (op := 0xE7) (e := ⟨.isc, .zp, 2, 5, false, true⟩) rfl rfl rfl rfl rfl
  | .inx => .implied (op := 0xE8) (e := ⟨.inx, .imp, 1, 2, false, false⟩) rfl rfl rfl rfl rfl
  | .sbcImm _ => .read (op := 0xE9) (e := ⟨.sbc, .imm, 2, 2, false, false⟩) rfl rfl rfl rfl rfl
  | .nop => .ignore (op := 0xEA) (e := ⟨.nop, .imp, 1, 2, false, false⟩) rfl rfl rfl rfl rfl
  | .sbcImmEB _ => .read (op := 0xEB) (e := ⟨.sbcUnofficial, .imm, 2, 2, false, true⟩) rfl rfl rfl rfl rfl
  | .cpxAbs _ => .read (op := 0xEC) (e := ⟨.cpx, .abs, 3, 4, false, false⟩) rfl rfl rfl rfl rfl
  | .sbcAbs _ => .read (op := 0xED) (e := ⟨.sbc, .abs, 3, 4, false, false⟩) rfl rfl rfl rfl rfl
  | .incAbs _ => .write (op := 0xEE) (e := ⟨.inc, .abs, 3, 6, false, false⟩) rfl rfl rfl rfl rfl
  | .iscAbs _ => .write (op := 0xEF) (e := ⟨.isc, .abs, 3, 6, false, true⟩) rfl rfl rfl rfl rfl
  | .beq _ => .jump (op := 0xF0) (e := ⟨.beq, .rel, 2, 2, false, false⟩) rfl rfl rfl rfl rfl
  | .sbcIndy _ => .read (op := 0xF1) (e := ⟨.sbc, .indy, 2, 5, true, false⟩) rfl rfl rfl rfl rfl
  | .illegalF2 => .illegal rfl rfl rfl
  | .iscIndy _ => .write (op := 0xF3) (e := ⟨.isc, .indy, 2, 8, false, true⟩) rfl rfl rfl rfl rfl
  | .nopZpxF4 _ => .ignore (op := 0xF4) (e := ⟨.nopUnofficial, .zpx, 2, 4, false, true⟩) rfl rfl rfl rfl rfl
  | .sbcZpx _ => .read (op := 0xF5) (e := ⟨.sbc, .zpx, 2, 4, false, false⟩) rfl rfl rfl rfl rfl
  | .incZpx _ => .write (op := 0xF6) (e := ⟨.inc, .zpx, 2, 6, false, false⟩) rfl rfl rfl rfl rfl
  | .iscZpx _ => .write (op := 0xF7) (e := ⟨.isc, .zpx, 2, 6, false, true⟩) rfl rfl rfl rfl rfl
  | .sed => .implied (op := 0xF8) (e := ⟨.sed, .imp, 1, 2, false, false⟩) rfl rfl rfl rfl rfl
  | .sbcAbsy _ => .read (op := 0xF9) (e := ⟨.sbc, .absy, 3, 4, true, false⟩) rfl rfl rfl rfl rfl
  | .nopImpFA => .ignore (op := 0xFA) (e := ⟨.nopUnofficial, .imp, 1, 2, false, true⟩) rfl rfl rfl rfl rfl
  | .iscAbsy _ => .write (op := 0xFB) (e := ⟨.isc, .absy, 3, 7, false, true⟩) rfl rfl rfl rfl rfl
  | .nopAbsxFC _ => .ignore (op := 0xFC) (e := ⟨.nopUnofficial, .absx, 3, 4, true, true⟩) rfl rfl rfl rfl rfl
  | .sbcAbsx _ => .read (op := 0xFD) (e := ⟨.sbc, .absx, 3, 4, true, false⟩) rfl rfl rfl rfl rfl
  | .incAbsx _ => .write (op := 0xFE) (e := ⟨.inc, .absx, 3, 7, false, false⟩) rfl rfl rfl rfl rfl
  | .iscAbsx _ => .write (op := 0xFF) (e := ⟨.isc, .absx, 3, 7, false, true⟩) rfl rfl rfl rfl rfl

end Sys2Proof.Machine
end

