-- ==== Sys2Proof/Laws/Kinds.lean ====
section
/-! SUPPORT. What `exec` is for an instruction of each kind, from its entry, and the end of a sequential instruction. -/

namespace Sys2Proof.Machine

/-- `exec_cases` for an instruction whose entry is known. -/
theorem exec_entry {i : Instr} {s : State} {e : Entry} (he : i.entry = some e) :
    (∃ h r, kindOf e.instr = .read h ∧ readForm i.form s = some r ∧ exec i s = runSeq i.opcode r h) ∨
    (∃ h r, kindOf e.instr = .write h ∧ writeForm i.form s = some r ∧ exec i s = runSeq i.opcode r h) ∨
    (∃ h, kindOf e.instr = .implied h ∧ i.form = .imp ∧ exec i s = runImplied i.opcode h s) ∨
    (kindOf e.instr = .ignore ∧
      exec i s = .next (updatePc i.opcode .sequential
        (account i.opcode (crossOf i.form s) (resolvedState i.form s)))) ∨
    (∃ h r, kindOf e.instr = .jump h ∧ jumpForm i.form s = some r ∧ exec i s = run i.opcode r h) ∨
    (∃ h, kindOf e.instr = .leave h ∧ i.form = .imp ∧ exec i s = run i.opcode (noOperand s) h) := by
  rcases exec_cases i s with h | ⟨f, h, k⟩
  · rw [he] at h
    cases h.1
  · rw [he] at h
    cases h
    exact k

/-- An unmapped byte's instruction raises IllegalOpcode (R333). -/
theorem exec_unmapped {i : Instr} {s : State} (he : i.entry = none) : exec i s = .next (raiseIllegal i.opcode s) := by
  rcases exec_cases i s with h | ⟨e, h, _⟩
  · exact h.2
  · rw [he] at h
    cases h

/-- A reading instruction. -/
theorem exec_read {i : Instr} {s : State} {e : Entry} {h : Operand → State → State} (he : i.entry = some e)
    (hk : kindOf e.instr = .read h) : ∃ r, readForm i.form s = some r ∧ exec i s = runSeq i.opcode r h := by
  rcases exec_entry (s := s) he with ⟨g, r, k, a, b⟩ | ⟨g, r, k, a, b⟩ | ⟨g, k, a, b⟩ | ⟨k, b⟩ | ⟨g, r, k, a, b⟩ | ⟨g, k, a, b⟩ <;>
    rw [hk] at k
  · cases k; exact ⟨r, a, b⟩
  · cases k
  · cases k
  · cases k
  · cases k
  · cases k

/-- A storing or modifying instruction. -/
theorem exec_write {i : Instr} {s : State} {e : Entry} {h : Place → State → State} (he : i.entry = some e)
    (hk : kindOf e.instr = .write h) : ∃ r, writeForm i.form s = some r ∧ exec i s = runSeq i.opcode r h := by
  rcases exec_entry (s := s) he with ⟨g, r, k, a, b⟩ | ⟨g, r, k, a, b⟩ | ⟨g, k, a, b⟩ | ⟨k, b⟩ | ⟨g, r, k, a, b⟩ | ⟨g, k, a, b⟩ <;>
    rw [hk] at k
  · cases k
  · cases k; exact ⟨r, a, b⟩
  · cases k
  · cases k
  · cases k
  · cases k

/-- An instruction with no operand. -/
theorem exec_implied {i : Instr} {s : State} {e : Entry} {h : State → State} (he : i.entry = some e)
    (hk : kindOf e.instr = .implied h) : i.form = .imp ∧ exec i s = runImplied i.opcode h s := by
  rcases exec_entry (s := s) he with ⟨g, r, k, a, b⟩ | ⟨g, r, k, a, b⟩ | ⟨g, k, a, b⟩ | ⟨k, b⟩ | ⟨g, r, k, a, b⟩ | ⟨g, k, a, b⟩ <;>
    rw [hk] at k
  · cases k
  · cases k
  · cases k; exact ⟨a, b⟩
  · cases k
  · cases k
  · cases k

/-- A NOP. -/
theorem exec_ignore {i : Instr} {s : State} {e : Entry} (he : i.entry = some e)
    (hk : kindOf e.instr = .ignore) : exec i s = .next (updatePc i.opcode .sequential
      (account i.opcode (crossOf i.form s) (resolvedState i.form s))) := by
  rcases exec_entry (s := s) he with ⟨g, r, k, a, b⟩ | ⟨g, r, k, a, b⟩ | ⟨g, k, a, b⟩ | ⟨k, b⟩ | ⟨g, r, k, a, b⟩ | ⟨g, k, a, b⟩ <;>
    rw [hk] at k
  · cases k
  · cases k
  · cases k
  · exact b
  · cases k
  · cases k

/-- A branch, a jump or JSR. -/
theorem exec_jump {i : Instr} {s : State} {e : Entry} {h : Word → State → Next × State} (he : i.entry = some e)
    (hk : kindOf e.instr = .jump h) : ∃ r, jumpForm i.form s = some r ∧ exec i s = run i.opcode r h := by
  rcases exec_entry (s := s) he with ⟨g, r, k, a, b⟩ | ⟨g, r, k, a, b⟩ | ⟨g, k, a, b⟩ | ⟨k, b⟩ | ⟨g, r, k, a, b⟩ | ⟨g, k, a, b⟩ <;>
    rw [hk] at k
  · cases k
  · cases k
  · cases k
  · cases k
  · cases k; exact ⟨r, a, b⟩
  · cases k

/-- BRK, RTI or RTS. -/
theorem exec_leave {i : Instr} {s : State} {e : Entry} {h : Unit → State → Next × State} (he : i.entry = some e)
    (hk : kindOf e.instr = .leave h) : i.form = .imp ∧ exec i s = run i.opcode (noOperand s) h := by
  rcases exec_entry (s := s) he with ⟨g, r, k, a, b⟩ | ⟨g, r, k, a, b⟩ | ⟨g, k, a, b⟩ | ⟨k, b⟩ | ⟨g, r, k, a, b⟩ | ⟨g, k, a, b⟩ <;>
    rw [hk] at k
  · cases k
  · cases k
  · cases k
  · cases k
  · cases k
  · cases k; exact ⟨a, b⟩

/-- The mnemonic of every instruction whose opcode is in a list, from the table alone. -/
theorem entry_of_opcode {i : Instr} {ops : List Byte} {mn : Mnemonic} (hi : i.opcode ∈ ops)
    (h : ∀ op ∈ ops, (opcodeTable op).map Entry.instr = some mn) : ∃ e, i.entry = some e ∧ e.instr = mn := by
  have hm := h _ hi
  unfold Instr.entry
  cases hx : opcodeTable i.opcode with
  | none => simp [hx] at hm
  | some e => exact ⟨e, rfl, by simpa [hx] using hm⟩

/-- A handler that leaves PC and Cycles alone ends as `sequentialEnd` says (R118, R119). -/
theorem updatePc_sequentialEnd {i : Instr} {e : Entry} {s u w : State} (he : i.entry = some e) (hpc : w.pc = s.pc)
    (hc : w.cycles = s.cycles +
      BitVec.ofNat 64 (baseCycles i.opcode + (crossCharged i.opcode && crossOf i.form s).toNat))
    (hu : u = { w with pc := u.pc, cycles := u.cycles }) :
    updatePc i.opcode .sequential w = sequentialEnd i s u := by
  have he' : opcodeTable i.opcode = some e := he
  unfold updatePc sequentialEnd
  rw [hu]
  simp only [State.setPc, opSize, Instr.size, cost, he, he', Option.map, Option.getD, hpc]
  rw [hc]
  simp [baseCycles, crossCharged, he']

end Sys2Proof.Machine
end

