-- ==== Sys2Proof/Laws/PerInstr.lean ====
section
/-! SUPPORT. One lemma per constructor of Instr: its row of the opcode table is well formed (spec/30_encoding.md R114),
and its encoding is as long as the row says (R91). -/

namespace Sys2Proof.Laws.Row

/-- The instruction's row passes the checks, and its bytes are as many as the row's size; an unmapped byte is one. -/
def Statement (i : Instr) : Prop :=
  i.wellFormed = true ∧ (encode i).length = (i.entry.map Entry.size).getD 1

/-- The statement from the opcode and the form. -/
theorem of {i : Instr} {op : Byte} {f : Form} (h : i.opcode = op) (k : i.form = f)
    (w : rowWellFormed op (opcodeTable op) f = true)
    (l : (op :: (f.operandBytes ++ if hasSignature op then [0x00] else [])).length =
      ((opcodeTable op).map Entry.size).getD 1) : Statement i := by
  subst h k
  exact ⟨w, l⟩

theorem brk : Statement (.brk) := of (op := 0x00) (f := .imp) rfl rfl rfl rfl
theorem oraIndx (zp : Byte) : Statement (.oraIndx zp) := of (op := 0x01) (f := .mem (.indx zp)) rfl rfl rfl rfl
theorem sloIndx (zp : Byte) : Statement (.sloIndx zp) := of (op := 0x03) (f := .mem (.indx zp)) rfl rfl rfl rfl
theorem nopZp04 (zp : Byte) : Statement (.nopZp04 zp) := of (op := 0x04) (f := .mem (.zp zp)) rfl rfl rfl rfl
theorem oraZp (zp : Byte) : Statement (.oraZp zp) := of (op := 0x05) (f := .mem (.zp zp)) rfl rfl rfl rfl
theorem aslZp (zp : Byte) : Statement (.aslZp zp) := of (op := 0x06) (f := .mem (.zp zp)) rfl rfl rfl rfl
theorem sloZp (zp : Byte) : Statement (.sloZp zp) := of (op := 0x07) (f := .mem (.zp zp)) rfl rfl rfl rfl
theorem php : Statement (.php) := of (op := 0x08) (f := .imp) rfl rfl rfl rfl
theorem oraImm (v : Byte) : Statement (.oraImm v) := of (op := 0x09) (f := .imm v) rfl rfl rfl rfl
theorem aslAcc : Statement (.aslAcc) := of (op := 0x0A) (f := .acc) rfl rfl rfl rfl
theorem nopAbs0C (addr : Word) : Statement (.nopAbs0C addr) := of (op := 0x0C) (f := .mem (.abs addr)) rfl rfl rfl rfl
theorem oraAbs (addr : Word) : Statement (.oraAbs addr) := of (op := 0x0D) (f := .mem (.abs addr)) rfl rfl rfl rfl
theorem aslAbs (addr : Word) : Statement (.aslAbs addr) := of (op := 0x0E) (f := .mem (.abs addr)) rfl rfl rfl rfl
theorem sloAbs (addr : Word) : Statement (.sloAbs addr) := of (op := 0x0F) (f := .mem (.abs addr)) rfl rfl rfl rfl
theorem bpl (off : Byte) : Statement (.bpl off) := of (op := 0x10) (f := .rel off) rfl rfl rfl rfl
theorem oraIndy (zp : Byte) : Statement (.oraIndy zp) := of (op := 0x11) (f := .mem (.indy zp)) rfl rfl rfl rfl
theorem sloIndy (zp : Byte) : Statement (.sloIndy zp) := of (op := 0x13) (f := .mem (.indy zp)) rfl rfl rfl rfl
theorem nopZpx14 (zp : Byte) : Statement (.nopZpx14 zp) := of (op := 0x14) (f := .mem (.zpx zp)) rfl rfl rfl rfl
theorem oraZpx (zp : Byte) : Statement (.oraZpx zp) := of (op := 0x15) (f := .mem (.zpx zp)) rfl rfl rfl rfl
theorem aslZpx (zp : Byte) : Statement (.aslZpx zp) := of (op := 0x16) (f := .mem (.zpx zp)) rfl rfl rfl rfl
theorem sloZpx (zp : Byte) : Statement (.sloZpx zp) := of (op := 0x17) (f := .mem (.zpx zp)) rfl rfl rfl rfl
theorem clc : Statement (.clc) := of (op := 0x18) (f := .imp) rfl rfl rfl rfl
theorem oraAbsy (addr : Word) : Statement (.oraAbsy addr) := of (op := 0x19) (f := .mem (.absy addr)) rfl rfl rfl rfl
theorem nopImp1A : Statement (.nopImp1A) := of (op := 0x1A) (f := .imp) rfl rfl rfl rfl
theorem sloAbsy (addr : Word) : Statement (.sloAbsy addr) := of (op := 0x1B) (f := .mem (.absy addr)) rfl rfl rfl rfl
theorem nopAbsx1C (addr : Word) : Statement (.nopAbsx1C addr) := of (op := 0x1C) (f := .mem (.absx addr)) rfl rfl rfl rfl
theorem oraAbsx (addr : Word) : Statement (.oraAbsx addr) := of (op := 0x1D) (f := .mem (.absx addr)) rfl rfl rfl rfl
theorem aslAbsx (addr : Word) : Statement (.aslAbsx addr) := of (op := 0x1E) (f := .mem (.absx addr)) rfl rfl rfl rfl
theorem sloAbsx (addr : Word) : Statement (.sloAbsx addr) := of (op := 0x1F) (f := .mem (.absx addr)) rfl rfl rfl rfl
theorem jsr (addr : Word) : Statement (.jsr addr) := of (op := 0x20) (f := .mem (.abs addr)) rfl rfl rfl rfl
theorem andIndx (zp : Byte) : Statement (.andIndx zp) := of (op := 0x21) (f := .mem (.indx zp)) rfl rfl rfl rfl
theorem rlaIndx (zp : Byte) : Statement (.rlaIndx zp) := of (op := 0x23) (f := .mem (.indx zp)) rfl rfl rfl rfl
theorem bitZp (zp : Byte) : Statement (.bitZp zp) := of (op := 0x24) (f := .mem (.zp zp)) rfl rfl rfl rfl
theorem andZp (zp : Byte) : Statement (.andZp zp) := of (op := 0x25) (f := .mem (.zp zp)) rfl rfl rfl rfl
theorem rolZp (zp : Byte) : Statement (.rolZp zp) := of (op := 0x26) (f := .mem (.zp zp)) rfl rfl rfl rfl
theorem rlaZp (zp : Byte) : Statement (.rlaZp zp) := of (op := 0x27) (f := .mem (.zp zp)) rfl rfl rfl rfl
theorem plp : Statement (.plp) := of (op := 0x28) (f := .imp) rfl rfl rfl rfl
theorem andImm (v : Byte) : Statement (.andImm v) := of (op := 0x29) (f := .imm v) rfl rfl rfl rfl
theorem rolAcc : Statement (.rolAcc) := of (op := 0x2A) (f := .acc) rfl rfl rfl rfl
theorem bitAbs (addr : Word) : Statement (.bitAbs addr) := of (op := 0x2C) (f := .mem (.abs addr)) rfl rfl rfl rfl
theorem andAbs (addr : Word) : Statement (.andAbs addr) := of (op := 0x2D) (f := .mem (.abs addr)) rfl rfl rfl rfl
theorem rolAbs (addr : Word) : Statement (.rolAbs addr) := of (op := 0x2E) (f := .mem (.abs addr)) rfl rfl rfl rfl
theorem rlaAbs (addr : Word) : Statement (.rlaAbs addr) := of (op := 0x2F) (f := .mem (.abs addr)) rfl rfl rfl rfl
theorem bmi (off : Byte) : Statement (.bmi off) := of (op := 0x30) (f := .rel off) rfl rfl rfl rfl
theorem andIndy (zp : Byte) : Statement (.andIndy zp) := of (op := 0x31) (f := .mem (.indy zp)) rfl rfl rfl rfl
theorem rlaIndy (zp : Byte) : Statement (.rlaIndy zp) := of (op := 0x33) (f := .mem (.indy zp)) rfl rfl rfl rfl
theorem nopZpx34 (zp : Byte) : Statement (.nopZpx34 zp) := of (op := 0x34) (f := .mem (.zpx zp)) rfl rfl rfl rfl
theorem andZpx (zp : Byte) : Statement (.andZpx zp) := of (op := 0x35) (f := .mem (.zpx zp)) rfl rfl rfl rfl
theorem rolZpx (zp : Byte) : Statement (.rolZpx zp) := of (op := 0x36) (f := .mem (.zpx zp)) rfl rfl rfl rfl
theorem rlaZpx (zp : Byte) : Statement (.rlaZpx zp) := of (op := 0x37) (f := .mem (.zpx zp)) rfl rfl rfl rfl
theorem sec : Statement (.sec) := of (op := 0x38) (f := .imp) rfl rfl rfl rfl
theorem andAbsy (addr : Word) : Statement (.andAbsy addr) := of (op := 0x39) (f := .mem (.absy addr)) rfl rfl rfl rfl
theorem nopImp3A : Statement (.nopImp3A) := of (op := 0x3A) (f := .imp) rfl rfl rfl rfl
theorem rlaAbsy (addr : Word) : Statement (.rlaAbsy addr) := of (op := 0x3B) (f := .mem (.absy addr)) rfl rfl rfl rfl
theorem nopAbsx3C (addr : Word) : Statement (.nopAbsx3C addr) := of (op := 0x3C) (f := .mem (.absx addr)) rfl rfl rfl rfl
theorem andAbsx (addr : Word) : Statement (.andAbsx addr) := of (op := 0x3D) (f := .mem (.absx addr)) rfl rfl rfl rfl
theorem rolAbsx (addr : Word) : Statement (.rolAbsx addr) := of (op := 0x3E) (f := .mem (.absx addr)) rfl rfl rfl rfl
theorem rlaAbsx (addr : Word) : Statement (.rlaAbsx addr) := of (op := 0x3F) (f := .mem (.absx addr)) rfl rfl rfl rfl
theorem rti : Statement (.rti) := of (op := 0x40) (f := .imp) rfl rfl rfl rfl
theorem eorIndx (zp : Byte) : Statement (.eorIndx zp) := of (op := 0x41) (f := .mem (.indx zp)) rfl rfl rfl rfl
theorem sreIndx (zp : Byte) : Statement (.sreIndx zp) := of (op := 0x43) (f := .mem (.indx zp)) rfl rfl rfl rfl
theorem nopZp44 (zp : Byte) : Statement (.nopZp44 zp) := of (op := 0x44) (f := .mem (.zp zp)) rfl rfl rfl rfl
theorem eorZp (zp : Byte) : Statement (.eorZp zp) := of (op := 0x45) (f := .mem (.zp zp)) rfl rfl rfl rfl
theorem lsrZp (zp : Byte) : Statement (.lsrZp zp) := of (op := 0x46) (f := .mem (.zp zp)) rfl rfl rfl rfl
theorem sreZp (zp : Byte) : Statement (.sreZp zp) := of (op := 0x47) (f := .mem (.zp zp)) rfl rfl rfl rfl
theorem pha : Statement (.pha) := of (op := 0x48) (f := .imp) rfl rfl rfl rfl
theorem eorImm (v : Byte) : Statement (.eorImm v) := of (op := 0x49) (f := .imm v) rfl rfl rfl rfl
theorem lsrAcc : Statement (.lsrAcc) := of (op := 0x4A) (f := .acc) rfl rfl rfl rfl
theorem jmpAbs (addr : Word) : Statement (.jmpAbs addr) := of (op := 0x4C) (f := .mem (.abs addr)) rfl rfl rfl rfl
theorem eorAbs (addr : Word) : Statement (.eorAbs addr) := of (op := 0x4D) (f := .mem (.abs addr)) rfl rfl rfl rfl
theorem lsrAbs (addr : Word) : Statement (.lsrAbs addr) := of (op := 0x4E) (f := .mem (.abs addr)) rfl rfl rfl rfl
theorem sreAbs (addr : Word) : Statement (.sreAbs addr) := of (op := 0x4F) (f := .mem (.abs addr)) rfl rfl rfl rfl
theorem bvc (off : Byte) : Statement (.bvc off) := of (op := 0x50) (f := .rel off) rfl rfl rfl rfl
theorem eorIndy (zp : Byte) : Statement (.eorIndy zp) := of (op := 0x51) (f := .mem (.indy zp)) rfl rfl rfl rfl
theorem sreIndy (zp : Byte) : Statement (.sreIndy zp) := of (op := 0x53) (f := .mem (.indy zp)) rfl rfl rfl rfl
theorem nopZpx54 (zp : Byte) : Statement (.nopZpx54 zp) := of (op := 0x54) (f := .mem (.zpx zp)) rfl rfl rfl rfl
theorem eorZpx (zp : Byte) : Statement (.eorZpx zp) := of (op := 0x55) (f := .mem (.zpx zp)) rfl rfl rfl rfl
theorem lsrZpx (zp : Byte) : Statement (.lsrZpx zp) := of (op := 0x56) (f := .mem (.zpx zp)) rfl rfl rfl rfl
theorem sreZpx (zp : Byte) : Statement (.sreZpx zp) := of (op := 0x57) (f := .mem (.zpx zp)) rfl rfl rfl rfl
theorem cli : Statement (.cli) := of (op := 0x58) (f := .imp) rfl rfl rfl rfl
theorem eorAbsy (addr : Word) : Statement (.eorAbsy addr) := of (op := 0x59) (f := .mem (.absy addr)) rfl rfl rfl rfl
theorem nopImp5A : Statement (.nopImp5A) := of (op := 0x5A) (f := .imp) rfl rfl rfl rfl
theorem sreAbsy (addr : Word) : Statement (.sreAbsy addr) := of (op := 0x5B) (f := .mem (.absy addr)) rfl rfl rfl rfl
theorem nopAbsx5C (addr : Word) : Statement (.nopAbsx5C addr) := of (op := 0x5C) (f := .mem (.absx addr)) rfl rfl rfl rfl
theorem eorAbsx (addr : Word) : Statement (.eorAbsx addr) := of (op := 0x5D) (f := .mem (.absx addr)) rfl rfl rfl rfl
theorem lsrAbsx (addr : Word) : Statement (.lsrAbsx addr) := of (op := 0x5E) (f := .mem (.absx addr)) rfl rfl rfl rfl
theorem sreAbsx (addr : Word) : Statement (.sreAbsx addr) := of (op := 0x5F) (f := .mem (.absx addr)) rfl rfl rfl rfl
theorem rts : Statement (.rts) := of (op := 0x60) (f := .imp) rfl rfl rfl rfl
theorem adcIndx (zp : Byte) : Statement (.adcIndx zp) := of (op := 0x61) (f := .mem (.indx zp)) rfl rfl rfl rfl
theorem rraIndx (zp : Byte) : Statement (.rraIndx zp) := of (op := 0x63) (f := .mem (.indx zp)) rfl rfl rfl rfl
theorem nopZp64 (zp : Byte) : Statement (.nopZp64 zp) := of (op := 0x64) (f := .mem (.zp zp)) rfl rfl rfl rfl
theorem adcZp (zp : Byte) : Statement (.adcZp zp) := of (op := 0x65) (f := .mem (.zp zp)) rfl rfl rfl rfl
theorem rorZp (zp : Byte) : Statement (.rorZp zp) := of (op := 0x66) (f := .mem (.zp zp)) rfl rfl rfl rfl
theorem rraZp (zp : Byte) : Statement (.rraZp zp) := of (op := 0x67) (f := .mem (.zp zp)) rfl rfl rfl rfl
theorem pla : Statement (.pla) := of (op := 0x68) (f := .imp) rfl rfl rfl rfl
theorem adcImm (v : Byte) : Statement (.adcImm v) := of (op := 0x69) (f := .imm v) rfl rfl rfl rfl
theorem rorAcc : Statement (.rorAcc) := of (op := 0x6A) (f := .acc) rfl rfl rfl rfl
theorem jmpInd (addr : Word) : Statement (.jmpInd addr) := of (op := 0x6C) (f := .ind addr) rfl rfl rfl rfl
theorem adcAbs (addr : Word) : Statement (.adcAbs addr) := of (op := 0x6D) (f := .mem (.abs addr)) rfl rfl rfl rfl
theorem rorAbs (addr : Word) : Statement (.rorAbs addr) := of (op := 0x6E) (f := .mem (.abs addr)) rfl rfl rfl rfl
theorem rraAbs (addr : Word) : Statement (.rraAbs addr) := of (op := 0x6F) (f := .mem (.abs addr)) rfl rfl rfl rfl
theorem bvs (off : Byte) : Statement (.bvs off) := of (op := 0x70) (f := .rel off) rfl rfl rfl rfl
theorem adcIndy (zp : Byte) : Statement (.adcIndy zp) := of (op := 0x71) (f := .mem (.indy zp)) rfl rfl rfl rfl
theorem rraIndy (zp : Byte) : Statement (.rraIndy zp) := of (op := 0x73) (f := .mem (.indy zp)) rfl rfl rfl rfl
theorem nopZpx74 (zp : Byte) : Statement (.nopZpx74 zp) := of (op := 0x74) (f := .mem (.zpx zp)) rfl rfl rfl rfl
theorem adcZpx (zp : Byte) : Statement (.adcZpx zp) := of (op := 0x75) (f := .mem (.zpx zp)) rfl rfl rfl rfl
theorem rorZpx (zp : Byte) : Statement (.rorZpx zp) := of (op := 0x76) (f := .mem (.zpx zp)) rfl rfl rfl rfl
theorem rraZpx (zp : Byte) : Statement (.rraZpx zp) := of (op := 0x77) (f := .mem (.zpx zp)) rfl rfl rfl rfl
theorem sei : Statement (.sei) := of (op := 0x78) (f := .imp) rfl rfl rfl rfl
theorem adcAbsy (addr : Word) : Statement (.adcAbsy addr) := of (op := 0x79) (f := .mem (.absy addr)) rfl rfl rfl rfl
theorem nopImp7A : Statement (.nopImp7A) := of (op := 0x7A) (f := .imp) rfl rfl rfl rfl
theorem rraAbsy (addr : Word) : Statement (.rraAbsy addr) := of (op := 0x7B) (f := .mem (.absy addr)) rfl rfl rfl rfl
theorem nopAbsx7C (addr : Word) : Statement (.nopAbsx7C addr) := of (op := 0x7C) (f := .mem (.absx addr)) rfl rfl rfl rfl
theorem adcAbsx (addr : Word) : Statement (.adcAbsx addr) := of (op := 0x7D) (f := .mem (.absx addr)) rfl rfl rfl rfl
theorem rorAbsx (addr : Word) : Statement (.rorAbsx addr) := of (op := 0x7E) (f := .mem (.absx addr)) rfl rfl rfl rfl
theorem rraAbsx (addr : Word) : Statement (.rraAbsx addr) := of (op := 0x7F) (f := .mem (.absx addr)) rfl rfl rfl rfl
theorem nopImm80 (v : Byte) : Statement (.nopImm80 v) := of (op := 0x80) (f := .imm v) rfl rfl rfl rfl
theorem staIndx (zp : Byte) : Statement (.staIndx zp) := of (op := 0x81) (f := .mem (.indx zp)) rfl rfl rfl rfl
theorem nopImm82 (v : Byte) : Statement (.nopImm82 v) := of (op := 0x82) (f := .imm v) rfl rfl rfl rfl
theorem saxIndx (zp : Byte) : Statement (.saxIndx zp) := of (op := 0x83) (f := .mem (.indx zp)) rfl rfl rfl rfl
theorem styZp (zp : Byte) : Statement (.styZp zp) := of (op := 0x84) (f := .mem (.zp zp)) rfl rfl rfl rfl
theorem staZp (zp : Byte) : Statement (.staZp zp) := of (op := 0x85) (f := .mem (.zp zp)) rfl rfl rfl rfl
theorem stxZp (zp : Byte) : Statement (.stxZp zp) := of (op := 0x86) (f := .mem (.zp zp)) rfl rfl rfl rfl
theorem saxZp (zp : Byte) : Statement (.saxZp zp) := of (op := 0x87) (f := .mem (.zp zp)) rfl rfl rfl rfl
theorem dey : Statement (.dey) := of (op := 0x88) (f := .imp) rfl rfl rfl rfl
theorem nopImm89 (v : Byte) : Statement (.nopImm89 v) := of (op := 0x89) (f := .imm v) rfl rfl rfl rfl
theorem txa : Statement (.txa) := of (op := 0x8A) (f := .imp) rfl rfl rfl rfl
theorem styAbs (addr : Word) : Statement (.styAbs addr) := of (op := 0x8C) (f := .mem (.abs addr)) rfl rfl rfl rfl
theorem staAbs (addr : Word) : Statement (.staAbs addr) := of (op := 0x8D) (f := .mem (.abs addr)) rfl rfl rfl rfl
theorem stxAbs (addr : Word) : Statement (.stxAbs addr) := of (op := 0x8E) (f := .mem (.abs addr)) rfl rfl rfl rfl
theorem saxAbs (addr : Word) : Statement (.saxAbs addr) := of (op := 0x8F) (f := .mem (.abs addr)) rfl rfl rfl rfl
theorem bcc (off : Byte) : Statement (.bcc off) := of (op := 0x90) (f := .rel off) rfl rfl rfl rfl
theorem staIndy (zp : Byte) : Statement (.staIndy zp) := of (op := 0x91) (f := .mem (.indy zp)) rfl rfl rfl rfl
theorem styZpx (zp : Byte) : Statement (.styZpx zp) := of (op := 0x94) (f := .mem (.zpx zp)) rfl rfl rfl rfl
theorem staZpx (zp : Byte) : Statement (.staZpx zp) := of (op := 0x95) (f := .mem (.zpx zp)) rfl rfl rfl rfl
theorem stxZpy (zp : Byte) : Statement (.stxZpy zp) := of (op := 0x96) (f := .mem (.zpy zp)) rfl rfl rfl rfl
theorem saxZpy (zp : Byte) : Statement (.saxZpy zp) := of (op := 0x97) (f := .mem (.zpy zp)) rfl rfl rfl rfl
theorem tya : Statement (.tya) := of (op := 0x98) (f := .imp) rfl rfl rfl rfl
theorem staAbsy (addr : Word) : Statement (.staAbsy addr) := of (op := 0x99) (f := .mem (.absy addr)) rfl rfl rfl rfl
theorem txs : Statement (.txs) := of (op := 0x9A) (f := .imp) rfl rfl rfl rfl
theorem staAbsx (addr : Word) : Statement (.staAbsx addr) := of (op := 0x9D) (f := .mem (.absx addr)) rfl rfl rfl rfl
theorem ldyImm (v : Byte) : Statement (.ldyImm v) := of (op := 0xA0) (f := .imm v) rfl rfl rfl rfl
theorem ldaIndx (zp : Byte) : Statement (.ldaIndx zp) := of (op := 0xA1) (f := .mem (.indx zp)) rfl rfl rfl rfl
theorem ldxImm (v : Byte) : Statement (.ldxImm v) := of (op := 0xA2) (f := .imm v) rfl rfl rfl rfl
theorem laxIndx (zp : Byte) : Statement (.laxIndx zp) := of (op := 0xA3) (f := .mem (.indx zp)) rfl rfl rfl rfl
theorem ldyZp (zp : Byte) : Statement (.ldyZp zp) := of (op := 0xA4) (f := .mem (.zp zp)) rfl rfl rfl rfl
theorem ldaZp (zp : Byte) : Statement (.ldaZp zp) := of (op := 0xA5) (f := .mem (.zp zp)) rfl rfl rfl rfl
theorem ldxZp (zp : Byte) : Statement (.ldxZp zp) := of (op := 0xA6) (f := .mem (.zp zp)) rfl rfl rfl rfl
theorem laxZp (zp : Byte) : Statement (.laxZp zp) := of (op := 0xA7) (f := .mem (.zp zp)) rfl rfl rfl rfl
theorem tay : Statement (.tay) := of (op := 0xA8) (f := .imp) rfl rfl rfl rfl
theorem ldaImm (v : Byte) : Statement (.ldaImm v) := of (op := 0xA9) (f := .imm v) rfl rfl rfl rfl
theorem tax : Statement (.tax) := of (op := 0xAA) (f := .imp) rfl rfl rfl rfl
theorem ldyAbs (addr : Word) : Statement (.ldyAbs addr) := of (op := 0xAC) (f := .mem (.abs addr)) rfl rfl rfl rfl
theorem ldaAbs (addr : Word) : Statement (.ldaAbs addr) := of (op := 0xAD) (f := .mem (.abs addr)) rfl rfl rfl rfl
theorem ldxAbs (addr : Word) : Statement (.ldxAbs addr) := of (op := 0xAE) (f := .mem (.abs addr)) rfl rfl rfl rfl
theorem laxAbs (addr : Word) : Statement (.laxAbs addr) := of (op := 0xAF) (f := .mem (.abs addr)) rfl rfl rfl rfl
theorem bcs (off : Byte) : Statement (.bcs off) := of (op := 0xB0) (f := .rel off) rfl rfl rfl rfl
theorem ldaIndy (zp : Byte) : Statement (.ldaIndy zp) := of (op := 0xB1) (f := .mem (.indy zp)) rfl rfl rfl rfl
theorem laxIndy (zp : Byte) : Statement (.laxIndy zp) := of (op := 0xB3) (f := .mem (.indy zp)) rfl rfl rfl rfl
theorem ldyZpx (zp : Byte) : Statement (.ldyZpx zp) := of (op := 0xB4) (f := .mem (.zpx zp)) rfl rfl rfl rfl
theorem ldaZpx (zp : Byte) : Statement (.ldaZpx zp) := of (op := 0xB5) (f := .mem (.zpx zp)) rfl rfl rfl rfl
theorem ldxZpy (zp : Byte) : Statement (.ldxZpy zp) := of (op := 0xB6) (f := .mem (.zpy zp)) rfl rfl rfl rfl
theorem laxZpy (zp : Byte) : Statement (.laxZpy zp) := of (op := 0xB7) (f := .mem (.zpy zp)) rfl rfl rfl rfl
theorem clv : Statement (.clv) := of (op := 0xB8) (f := .imp) rfl rfl rfl rfl
theorem ldaAbsy (addr : Word) : Statement (.ldaAbsy addr) := of (op := 0xB9) (f := .mem (.absy addr)) rfl rfl rfl rfl
theorem tsx : Statement (.tsx) := of (op := 0xBA) (f := .imp) rfl rfl rfl rfl
theorem ldyAbsx (addr : Word) : Statement (.ldyAbsx addr) := of (op := 0xBC) (f := .mem (.absx addr)) rfl rfl rfl rfl
theorem ldaAbsx (addr : Word) : Statement (.ldaAbsx addr) := of (op := 0xBD) (f := .mem (.absx addr)) rfl rfl rfl rfl
theorem ldxAbsy (addr : Word) : Statement (.ldxAbsy addr) := of (op := 0xBE) (f := .mem (.absy addr)) rfl rfl rfl rfl
theorem laxAbsy (addr : Word) : Statement (.laxAbsy addr) := of (op := 0xBF) (f := .mem (.absy addr)) rfl rfl rfl rfl
theorem cpyImm (v : Byte) : Statement (.cpyImm v) := of (op := 0xC0) (f := .imm v) rfl rfl rfl rfl
theorem cmpIndx (zp : Byte) : Statement (.cmpIndx zp) := of (op := 0xC1) (f := .mem (.indx zp)) rfl rfl rfl rfl
theorem nopImmC2 (v : Byte) : Statement (.nopImmC2 v) := of (op := 0xC2) (f := .imm v) rfl rfl rfl rfl
theorem dcpIndx (zp : Byte) : Statement (.dcpIndx zp) := of (op := 0xC3) (f := .mem (.indx zp)) rfl rfl rfl rfl
theorem cpyZp (zp : Byte) : Statement (.cpyZp zp) := of (op := 0xC4) (f := .mem (.zp zp)) rfl rfl rfl rfl
theorem cmpZp (zp : Byte) : Statement (.cmpZp zp) := of (op := 0xC5) (f := .mem (.zp zp)) rfl rfl rfl rfl
theorem decZp (zp : Byte) : Statement (.decZp zp) := of (op := 0xC6) (f := .mem (.zp zp)) rfl rfl rfl rfl
theorem dcpZp (zp : Byte) : Statement (.dcpZp zp) := of (op := 0xC7) (f := .mem (.zp zp)) rfl rfl rfl rfl
theorem iny : Statement (.iny) := of (op := 0xC8) (f := .imp) rfl rfl rfl rfl
theorem cmpImm (v : Byte) : Statement (.cmpImm v) := of (op := 0xC9) (f := .imm v) rfl rfl rfl rfl
theorem dex : Statement (.dex) := of (op := 0xCA) (f := .imp) rfl rfl rfl rfl
theorem cpyAbs (addr : Word) : Statement (.cpyAbs addr) := of (op := 0xCC) (f := .mem (.abs addr)) rfl rfl rfl rfl
theorem cmpAbs (addr : Word) : Statement (.cmpAbs addr) := of (op := 0xCD) (f := .mem (.abs addr)) rfl rfl rfl rfl
theorem decAbs (addr : Word) : Statement (.decAbs addr) := of (op := 0xCE) (f := .mem (.abs addr)) rfl rfl rfl rfl
theorem dcpAbs (addr : Word) : Statement (.dcpAbs addr) := of (op := 0xCF) (f := .mem (.abs addr)) rfl rfl rfl rfl
theorem bne (off : Byte) : Statement (.bne off) := of (op := 0xD0) (f := .rel off) rfl rfl rfl rfl
theorem cmpIndy (zp : Byte) : Statement (.cmpIndy zp) := of (op := 0xD1) (f := .mem (.indy zp)) rfl rfl rfl rfl
theorem dcpIndy (zp : Byte) : Statement (.dcpIndy zp) := of (op := 0xD3) (f := .mem (.indy zp)) rfl rfl rfl rfl
theorem nopZpxD4 (zp : Byte) : Statement (.nopZpxD4 zp) := of (op := 0xD4) (f := .mem (.zpx zp)) rfl rfl rfl rfl
theorem cmpZpx (zp : Byte) : Statement (.cmpZpx zp) := of (op := 0xD5) (f := .mem (.zpx zp)) rfl rfl rfl rfl
theorem decZpx (zp : Byte) : Statement (.decZpx zp) := of (op := 0xD6) (f := .mem (.zpx zp)) rfl rfl rfl rfl
theorem dcpZpx (zp : Byte) : Statement (.dcpZpx zp) := of (op := 0xD7) (f := .mem (.zpx zp)) rfl rfl rfl rfl
theorem cld : Statement (.cld) := of (op := 0xD8) (f := .imp) rfl rfl rfl rfl
theorem cmpAbsy (addr : Word) : Statement (.cmpAbsy addr) := of (op := 0xD9) (f := .mem (.absy addr)) rfl rfl rfl rfl
theorem nopImpDA : Statement (.nopImpDA) := of (op := 0xDA) (f := .imp) rfl rfl rfl rfl
theorem dcpAbsy (addr : Word) : Statement (.dcpAbsy addr) := of (op := 0xDB) (f := .mem (.absy addr)) rfl rfl rfl rfl
theorem nopAbsxDC (addr : Word) : Statement (.nopAbsxDC addr) := of (op := 0xDC) (f := .mem (.absx addr)) rfl rfl rfl rfl
theorem cmpAbsx (addr : Word) : Statement (.cmpAbsx addr) := of (op := 0xDD) (f := .mem (.absx addr)) rfl rfl rfl rfl
theorem decAbsx (addr : Word) : Statement (.decAbsx addr) := of (op := 0xDE) (f := .mem (.absx addr)) rfl rfl rfl rfl
theorem dcpAbsx (addr : Word) : Statement (.dcpAbsx addr) := of (op := 0xDF) (f := .mem (.absx addr)) rfl rfl rfl rfl
theorem cpxImm (v : Byte) : Statement (.cpxImm v) := of (op := 0xE0) (f := .imm v) rfl rfl rfl rfl
theorem sbcIndx (zp : Byte) : Statement (.sbcIndx zp) := of (op := 0xE1) (f := .mem (.indx zp)) rfl rfl rfl rfl
theorem nopImmE2 (v : Byte) : Statement (.nopImmE2 v) := of (op := 0xE2) (f := .imm v) rfl rfl rfl rfl
theorem iscIndx (zp : Byte) : Statement (.iscIndx zp) := of (op := 0xE3) (f := .mem (.indx zp)) rfl rfl rfl rfl
theorem cpxZp (zp : Byte) : Statement (.cpxZp zp) := of (op := 0xE4) (f := .mem (.zp zp)) rfl rfl rfl rfl
theorem sbcZp (zp : Byte) : Statement (.sbcZp zp) := of (op := 0xE5) (f := .mem (.zp zp)) rfl rfl rfl rfl
theorem incZp (zp : Byte) : Statement (.incZp zp) := of (op := 0xE6) (f := .mem (.zp zp)) rfl rfl rfl rfl
theorem iscZp (zp : Byte) : Statement (.iscZp zp) := of (op := 0xE7) (f := .mem (.zp zp)) rfl rfl rfl rfl
theorem inx : Statement (.inx) := of (op := 0xE8) (f := .imp) rfl rfl rfl rfl
theorem sbcImm (v : Byte) : Statement (.sbcImm v) := of (op := 0xE9) (f := .imm v) rfl rfl rfl rfl
theorem nop : Statement (.nop) := of (op := 0xEA) (f := .imp) rfl rfl rfl rfl
theorem sbcImmEB (v : Byte) : Statement (.sbcImmEB v) := of (op := 0xEB) (f := .imm v) rfl rfl rfl rfl
theorem cpxAbs (addr : Word) : Statement (.cpxAbs addr) := of (op := 0xEC) (f := .mem (.abs addr)) rfl rfl rfl rfl
theorem sbcAbs (addr : Word) : Statement (.sbcAbs addr) := of (op := 0xED) (f := .mem (.abs addr)) rfl rfl rfl rfl
theorem incAbs (addr : Word) : Statement (.incAbs addr) := of (op := 0xEE) (f := .mem (.abs addr)) rfl rfl rfl rfl
theorem iscAbs (addr : Word) : Statement (.iscAbs addr) := of (op := 0xEF) (f := .mem (.abs addr)) rfl rfl rfl rfl
theorem beq (off : Byte) : Statement (.beq off) := of (op := 0xF0) (f := .rel off) rfl rfl rfl rfl
theorem sbcIndy (zp : Byte) : Statement (.sbcIndy zp) := of (op := 0xF1) (f := .mem (.indy zp)) rfl rfl rfl rfl
theorem iscIndy (zp : Byte) : Statement (.iscIndy zp) := of (op := 0xF3) (f := .mem (.indy zp)) rfl rfl rfl rfl
theorem nopZpxF4 (zp : Byte) : Statement (.nopZpxF4 zp) := of (op := 0xF4) (f := .mem (.zpx zp)) rfl rfl rfl rfl
theorem sbcZpx (zp : Byte) : Statement (.sbcZpx zp) := of (op := 0xF5) (f := .mem (.zpx zp)) rfl rfl rfl rfl
theorem incZpx (zp : Byte) : Statement (.incZpx zp) := of (op := 0xF6) (f := .mem (.zpx zp)) rfl rfl rfl rfl
theorem iscZpx (zp : Byte) : Statement (.iscZpx zp) := of (op := 0xF7) (f := .mem (.zpx zp)) rfl rfl rfl rfl
theorem sed : Statement (.sed) := of (op := 0xF8) (f := .imp) rfl rfl rfl rfl
theorem sbcAbsy (addr : Word) : Statement (.sbcAbsy addr) := of (op := 0xF9) (f := .mem (.absy addr)) rfl rfl rfl rfl
theorem nopImpFA : Statement (.nopImpFA) := of (op := 0xFA) (f := .imp) rfl rfl rfl rfl
theorem iscAbsy (addr : Word) : Statement (.iscAbsy addr) := of (op := 0xFB) (f := .mem (.absy addr)) rfl rfl rfl rfl
theorem nopAbsxFC (addr : Word) : Statement (.nopAbsxFC addr) := of (op := 0xFC) (f := .mem (.absx addr)) rfl rfl rfl rfl
theorem sbcAbsx (addr : Word) : Statement (.sbcAbsx addr) := of (op := 0xFD) (f := .mem (.absx addr)) rfl rfl rfl rfl
theorem incAbsx (addr : Word) : Statement (.incAbsx addr) := of (op := 0xFE) (f := .mem (.absx addr)) rfl rfl rfl rfl
theorem iscAbsx (addr : Word) : Statement (.iscAbsx addr) := of (op := 0xFF) (f := .mem (.absx addr)) rfl rfl rfl rfl
theorem illegal02 : Statement (.illegal02) := of (op := 0x02) (f := .imp) rfl rfl rfl rfl
theorem illegal0B : Statement (.illegal0B) := of (op := 0x0B) (f := .imp) rfl rfl rfl rfl
theorem illegal12 : Statement (.illegal12) := of (op := 0x12) (f := .imp) rfl rfl rfl rfl
theorem illegal22 : Statement (.illegal22) := of (op := 0x22) (f := .imp) rfl rfl rfl rfl
theorem illegal2B : Statement (.illegal2B) := of (op := 0x2B) (f := .imp) rfl rfl rfl rfl
theorem illegal32 : Statement (.illegal32) := of (op := 0x32) (f := .imp) rfl rfl rfl rfl
theorem illegal42 : Statement (.illegal42) := of (op := 0x42) (f := .imp) rfl rfl rfl rfl
theorem illegal4B : Statement (.illegal4B) := of (op := 0x4B) (f := .imp) rfl rfl rfl rfl
theorem illegal52 : Statement (.illegal52) := of (op := 0x52) (f := .imp) rfl rfl rfl rfl
theorem illegal62 : Statement (.illegal62) := of (op := 0x62) (f := .imp) rfl rfl rfl rfl
theorem illegal6B : Statement (.illegal6B) := of (op := 0x6B) (f := .imp) rfl rfl rfl rfl
theorem illegal72 : Statement (.illegal72) := of (op := 0x72) (f := .imp) rfl rfl rfl rfl
theorem illegal8B : Statement (.illegal8B) := of (op := 0x8B) (f := .imp) rfl rfl rfl rfl
theorem illegal92 : Statement (.illegal92) := of (op := 0x92) (f := .imp) rfl rfl rfl rfl
theorem illegal93 : Statement (.illegal93) := of (op := 0x93) (f := .imp) rfl rfl rfl rfl
theorem illegal9B : Statement (.illegal9B) := of (op := 0x9B) (f := .imp) rfl rfl rfl rfl
theorem illegal9C : Statement (.illegal9C) := of (op := 0x9C) (f := .imp) rfl rfl rfl rfl
theorem illegal9E : Statement (.illegal9E) := of (op := 0x9E) (f := .imp) rfl rfl rfl rfl
theorem illegal9F : Statement (.illegal9F) := of (op := 0x9F) (f := .imp) rfl rfl rfl rfl
theorem illegalAB : Statement (.illegalAB) := of (op := 0xAB) (f := .imp) rfl rfl rfl rfl
theorem illegalB2 : Statement (.illegalB2) := of (op := 0xB2) (f := .imp) rfl rfl rfl rfl
theorem illegalBB : Statement (.illegalBB) := of (op := 0xBB) (f := .imp) rfl rfl rfl rfl
theorem illegalCB : Statement (.illegalCB) := of (op := 0xCB) (f := .imp) rfl rfl rfl rfl
theorem illegalD2 : Statement (.illegalD2) := of (op := 0xD2) (f := .imp) rfl rfl rfl rfl
theorem illegalF2 : Statement (.illegalF2) := of (op := 0xF2) (f := .imp) rfl rfl rfl rfl

end Sys2Proof.Laws.Row
end

