-- ==== Sys2Proof/Laws/Step.lean ====
section
/-! SUPPORT. What the parts of a Step do: the fetch makes port reads only; the check point services an NMI, an IRQ or
nothing; and a Step is one of stopping, servicing, or running an instruction. -/

namespace Sys2Proof.Machine

/-- All a fetch can do to the state (R78). -/
theorem sameButPort_fetch (s : State) : SameButPort s (fetch s).2 := by
  unfold fetch
  simp only [memRead_fst, memRead_snd]
  have h := sameButPort_afterRead s s.pc
  split
  · exact h
  · exact h.trans (sameButPort_afterRead _ _)
  · exact (h.trans (sameButPort_afterRead _ _)).trans (sameButPort_afterRead _ _)

/-- All a host reset leaves of memory (R374). -/
theorem hostReset_mem (s : State) : (hostReset s).mem = s.mem := by simp [hostReset, resetRegisters]

theorem hostReset_p (s : State) : (hostReset s).p = unpack 0x24 := by simp [hostReset, resetRegisters]

theorem hostReset_params (s : State) : (hostReset s).params = s.params := by simp [hostReset, resetRegisters]

/-- The check point when an NMI is pending (R324, R326). -/
theorem serviceInterrupt_nmi {s : State} (h : s.nmiPending = true) : serviceInterrupt s = some (serviceNmi s) := by
  simp [serviceInterrupt, h]

/-- The check point when only an unmasked IRQ is pending (R325, R327). -/
theorem serviceInterrupt_irq {s : State} (h : s.nmiPending = false) (k : s.irqPending = true) (m : s.p.i = false) :
    serviceInterrupt s = some (serviceIrq s) := by
  simp [serviceInterrupt, h, k, m]

/-- The check point when nothing is to be serviced. -/
theorem serviceInterrupt_none {s : State} (h : serviceable s = false) : serviceInterrupt s = none := by
  have h : s.nmiPending = false ∧ (s.irqPending = true → s.p.i = true) := by simpa [serviceable] using h
  unfold serviceInterrupt
  rw [h.1]
  cases hi : s.irqPending
  · rfl
  · rw [h.2 hi]
    rfl

theorem step_of_fault {s : State} {e : FatalError} (h : s.fault = some e) : step s = .fault (.fatalError e) := by
  simp [step, stepLoop, h]

theorem step_of_running {s : State} (h : s.fault = none) : step s = stepRunning s := by
  simp [step, stepLoop, h]

/-- A Step with nothing to service runs the instruction at PC. -/
theorem stepRunning_none {s : State} (h : serviceInterrupt s.beginStep = none) :
    stepRunning s = runInstruction s.beginStep := by
  simp only [stepRunning, h]

/-- A Step that services an interrupt ends there, or goes on when fused (R338). -/
theorem stepRunning_some {s t : State} (h : serviceInterrupt s.beginStep = some t) :
    stepRunning s = if t.params.fusedInterruptStep then runInstruction t else .next t := by
  simp only [stepRunning, h]

end Sys2Proof.Machine
end

