-- ==== Sys2Proof/Laws/Runs.lean ====
section
/-! SUPPORT. What the functions of Machine/Runs.lean do: a JMP to itself is one of two instructions, and a run of a list
of events is the run of its first part and then of the rest. -/

namespace Sys2Proof.Machine

set_option maxRecDepth 4000 in
/-- The two opcode bytes of JMP (R239). -/
theorem jmp_opcodes : ∀ n : Fin 256, (opcodeTable (BitVec.ofFin n)).map Entry.instr = some .jmp →
    (Nat.beq n.val 0x4C || Nat.beq n.val 0x6C) = true := by decide

/-- All a JMP can be (R239). -/
theorem jmp_cases {i : Instr} (h : i.mnemonic = some .jmp) : (∃ addr, i = .jmpAbs addr) ∨ ∃ addr, i = .jmpInd addr := by
  have k := jmp_opcodes i.opcode.toFin h
  cases i with
  | jmpAbs addr => exact .inl ⟨addr, rfl⟩
  | jmpInd addr => exact .inr ⟨addr, rfl⟩
  | _ => exact Bool.noConfusion k

/-- All a self-jump can be: the fetched instruction is JMP abs to PC, or JMP (abs) through a pointer that reads PC. -/
theorem selfJump_cases {s : State} (h : selfJump s = true) :
    (fetch s).1 = .jmpAbs s.pc ∨
    ∃ addr, (fetch s).1 = .jmpInd addr ∧ (readWordBug addr (fetch s).2).1 = s.pc := by
  unfold selfJump at h
  generalize fetch s = q at h
  obtain ⟨i, u⟩ := q
  simp only [Bool.and_eq_true, beq_iff_eq] at h
  obtain ⟨hm, ht⟩ := h
  obtain ⟨addr, rfl⟩ | ⟨addr, rfl⟩ := jmp_cases hm
  · exact .inl (congrArg Instr.jmpAbs (Option.some.inj ht))
  · exact .inr ⟨addr, rfl, Option.some.inj ht⟩

/-- What `endAt` says of the final state of a Step (R382). -/
theorem endAt_fault {t : State} (h : endAt t = some .fault) : t.fault ≠ none := by
  intro z
  have : faultEnd t = false := by rw [faultEnd, z]; rfl
  unfold endAt at h
  cases hn : normalEnd t <;> simp [this, hn] at h

theorem endAt_normal {t : State} (h : endAt t = some .normal) : normalEnd t = true := by
  unfold endAt at h
  cases hf : faultEnd t <;> cases hn : normalEnd t <;> simp [hf, hn] at h
  rfl

theorem endAt_none {t : State} (h : endAt t = none) : t.fault = none ∧ normalEnd t = false := by
  unfold endAt at h
  cases hf : faultEnd t <;> cases hn : normalEnd t <;> simp [hf, hn] at h
  exact ⟨by simpa [faultEnd] using hf, rfl⟩

/-- A Reset is no event of a run, and any other event is (R382). -/
theorem happenInRun_eq (e : Event) (s : State) :
    happenInRun e s = if e = .host .reset then none else happen e s := by
  cases e with
  | step => rfl
  | host h => cases h <;> rfl

/-- The run of a list of events goes on through the rest where its first part has not ended. -/
theorem runFrom_append (es fs : List Event) (s : State) :
    runFrom (es ++ fs) s =
      match runFrom es s with
      | .going u => runFrom fs u
      | .ended e t => .ended e t
      | .notARun => .notARun := by
  induction es generalizing s with
  | nil => rfl
  | cons e es ih =>
    simp only [List.cons_append, runFrom]
    cases happenInRun e s with
    | none => rfl
    | some t =>
      dsimp only
      cases endAfter e t with
      | some k => rfl
      | none => exact ih t

end Sys2Proof.Machine
end

