-- ==== Sys2Proof/Tests/Slice0.lean ====
section
/-! SUPPORT. Tests of the model, each against the spec's own words: ill-formed rows that the checks refuse, a decoded word
for every constructor from the Encoding line of its rule, vectors of spec/95_test_vectors.md of one Step each, and a
witness for the hypotheses of every statement. -/

open Sys2Proof Sys2Proof.Machine

namespace Sys2Proof.Tests

/-! ### WellFormed refuses an ill-formed term of each kind -/

/-- A correct row to spoil: LDA abs,X (R151). -/
def rowLda : Entry := ⟨.lda, .absx, 3, 4, true, false⟩

theorem test_wf_accepts_the_row : rowLda.wellFormed 0xBD = true := by decide

/-- R114: the mode is not in the instruction's map. -/
theorem test_wf_refuses_unmapped_mode : ({ rowLda with mode := .zpy, size := 2, pageCross := false } : Entry).wellFormed 0xBD = false := by decide

/-- R114: the mode is in the map under another opcode. -/
theorem test_wf_refuses_wrong_index : rowLda.wellFormed 0xBE = false := by decide

/-- R114, conflict C11: $EB folded into the official SBC fails the check. -/
theorem test_wf_refuses_folded_sbc : (⟨.sbc, .imm, 2, 2, false, true⟩ : Entry).wellFormed 0xEB = false := by decide

/-- R91: the size is not the mode's. -/
theorem test_wf_refuses_wrong_size : ({ rowLda with size := 2 } : Entry).wellFormed 0xBD = false := by decide

/-- R91: BRK of one byte. -/
theorem test_wf_refuses_short_brk : (⟨.brk, .imp, 1, 7, false, false⟩ : Entry).wellFormed 0x00 = false := by decide

/-- R5: base cycles below and above the range. -/
theorem test_wf_refuses_wrong_cycles :
    ({ rowLda with cycles := 0 } : Entry).wellFormed 0xBD = false ∧
    ({ rowLda with cycles := 9 } : Entry).wellFormed 0xBD = false := by decide

/-- R118: a page-cross flag on a mode that cannot cross. -/
theorem test_wf_refuses_impossible_cross : (⟨.lda, .zp, 2, 3, true, false⟩ : Entry).wellFormed 0xA5 = false := by decide

/-- R113: the unofficial marker on an official instruction. -/
theorem test_wf_refuses_wrong_marker : ({ rowLda with unofficial := true } : Entry).wellFormed 0xBD = false := by decide

/-- The form of another mode, and an operand after an unmapped byte. -/
theorem test_wf_refuses_wrong_form :
    rowWellFormed 0xBD (some rowLda) (.mem (.absy 0x1234)) = false ∧
    rowWellFormed 0x02 none (.imm 0x12) = false := by decide

/-- R116: a table with one bad entry. -/
theorem test_wf_refuses_table :
    tableWellFormed (fun op => if op = 0xBD then some { rowLda with size := 2 } else opcodeTable op) = false := by decide

/-! ### Decoding: the words of every rule's Encoding line, operand bytes $34 $12 -/

/-- What the decoder reads from a list of bytes. -/
def reads (bytes : List Byte) : Option (Instr × List Byte) :=
  match decode bytes with
  | .ok r => some r
  | .error _ => none

/-- R151. -/
theorem test_decode_LDA :
    ([
      [0xA9, 0x34], [0xA5, 0x34], [0xB5, 0x34], [0xAD, 0x34, 0x12], [0xBD, 0x34, 0x12], [0xB9, 0x34, 0x12],
      [0xA1, 0x34], [0xB1, 0x34]].map reads) = [
      some (.ldaImm 0x34, []), some (.ldaZp 0x34, []), some (.ldaZpx 0x34, []), some (.ldaAbs 0x1234, []), some
      (.ldaAbsx 0x1234, []), some (.ldaAbsy 0x1234, []), some (.ldaIndx 0x34, []), some (.ldaIndy 0x34, [])] := by decide

/-- R152. -/
theorem test_decode_LDX :
    ([
      [0xA2, 0x34], [0xA6, 0x34], [0xB6, 0x34], [0xAE, 0x34, 0x12], [0xBE, 0x34, 0x12]].map reads) = [
      some (.ldxImm 0x34, []), some (.ldxZp 0x34, []), some (.ldxZpy 0x34, []), some (.ldxAbs 0x1234, []), some
      (.ldxAbsy 0x1234, [])] := by decide

/-- R153. -/
theorem test_decode_LDY :
    ([
      [0xA0, 0x34], [0xA4, 0x34], [0xB4, 0x34], [0xAC, 0x34, 0x12], [0xBC, 0x34, 0x12]].map reads) = [
      some (.ldyImm 0x34, []), some (.ldyZp 0x34, []), some (.ldyZpx 0x34, []), some (.ldyAbs 0x1234, []), some
      (.ldyAbsx 0x1234, [])] := by decide

/-- R154. -/
theorem test_decode_STA :
    ([
      [0x85, 0x34], [0x95, 0x34], [0x8D, 0x34, 0x12], [0x9D, 0x34, 0x12], [0x99, 0x34, 0x12], [0x81, 0x34],
      [0x91, 0x34]].map reads) = [
      some (.staZp 0x34, []), some (.staZpx 0x34, []), some (.staAbs 0x1234, []), some (.staAbsx 0x1234, []),
      some (.staAbsy 0x1234, []), some (.staIndx 0x34, []), some (.staIndy 0x34, [])] := by decide

/-- R155. -/
theorem test_decode_STX :
    ([
      [0x86, 0x34], [0x96, 0x34], [0x8E, 0x34, 0x12]].map reads) = [
      some (.stxZp 0x34, []), some (.stxZpy 0x34, []), some (.stxAbs 0x1234, [])] := by decide

/-- R156. -/
theorem test_decode_STY :
    ([
      [0x84, 0x34], [0x94, 0x34], [0x8C, 0x34, 0x12]].map reads) = [
      some (.styZp 0x34, []), some (.styZpx 0x34, []), some (.styAbs 0x1234, [])] := by decide

/-- R157. -/
theorem test_decode_TAX :
    ([
      [0xAA, 0x34]].map reads) = [
      some (.tax, [0x34])] := by decide

/-- R158. -/
theorem test_decode_TAY :
    ([
      [0xA8, 0x34]].map reads) = [
      some (.tay, [0x34])] := by decide

/-- R159. -/
theorem test_decode_TXA :
    ([
      [0x8A, 0x34]].map reads) = [
      some (.txa, [0x34])] := by decide

/-- R160. -/
theorem test_decode_TYA :
    ([
      [0x98, 0x34]].map reads) = [
      some (.tya, [0x34])] := by decide

/-- R161. -/
theorem test_decode_TSX :
    ([
      [0xBA, 0x34]].map reads) = [
      some (.tsx, [0x34])] := by decide

/-- R162. -/
theorem test_decode_TXS :
    ([
      [0x9A, 0x34]].map reads) = [
      some (.txs, [0x34])] := by decide

/-- R181. -/
theorem test_decode_ADC :
    ([
      [0x69, 0x34], [0x65, 0x34], [0x75, 0x34], [0x6D, 0x34, 0x12], [0x7D, 0x34, 0x12], [0x79, 0x34, 0x12],
      [0x61, 0x34], [0x71, 0x34]].map reads) = [
      some (.adcImm 0x34, []), some (.adcZp 0x34, []), some (.adcZpx 0x34, []), some (.adcAbs 0x1234, []), some
      (.adcAbsx 0x1234, []), some (.adcAbsy 0x1234, []), some (.adcIndx 0x34, []), some (.adcIndy 0x34, [])] := by decide

/-- R182. -/
theorem test_decode_SBC :
    ([
      [0xE9, 0x34], [0xE5, 0x34], [0xF5, 0x34], [0xED, 0x34, 0x12], [0xFD, 0x34, 0x12], [0xF9, 0x34, 0x12],
      [0xE1, 0x34], [0xF1, 0x34]].map reads) = [
      some (.sbcImm 0x34, []), some (.sbcZp 0x34, []), some (.sbcZpx 0x34, []), some (.sbcAbs 0x1234, []), some
      (.sbcAbsx 0x1234, []), some (.sbcAbsy 0x1234, []), some (.sbcIndx 0x34, []), some (.sbcIndy 0x34, [])] := by decide

/-- R183. -/
theorem test_decode_AND :
    ([
      [0x29, 0x34], [0x25, 0x34], [0x35, 0x34], [0x2D, 0x34, 0x12], [0x3D, 0x34, 0x12], [0x39, 0x34, 0x12],
      [0x21, 0x34], [0x31, 0x34]].map reads) = [
      some (.andImm 0x34, []), some (.andZp 0x34, []), some (.andZpx 0x34, []), some (.andAbs 0x1234, []), some
      (.andAbsx 0x1234, []), some (.andAbsy 0x1234, []), some (.andIndx 0x34, []), some (.andIndy 0x34, [])] := by decide

/-- R184. -/
theorem test_decode_ORA :
    ([
      [0x09, 0x34], [0x05, 0x34], [0x15, 0x34], [0x0D, 0x34, 0x12], [0x1D, 0x34, 0x12], [0x19, 0x34, 0x12],
      [0x01, 0x34], [0x11, 0x34]].map reads) = [
      some (.oraImm 0x34, []), some (.oraZp 0x34, []), some (.oraZpx 0x34, []), some (.oraAbs 0x1234, []), some
      (.oraAbsx 0x1234, []), some (.oraAbsy 0x1234, []), some (.oraIndx 0x34, []), some (.oraIndy 0x34, [])] := by decide

/-- R185. -/
theorem test_decode_EOR :
    ([
      [0x49, 0x34], [0x45, 0x34], [0x55, 0x34], [0x4D, 0x34, 0x12], [0x5D, 0x34, 0x12], [0x59, 0x34, 0x12],
      [0x41, 0x34], [0x51, 0x34]].map reads) = [
      some (.eorImm 0x34, []), some (.eorZp 0x34, []), some (.eorZpx 0x34, []), some (.eorAbs 0x1234, []), some
      (.eorAbsx 0x1234, []), some (.eorAbsy 0x1234, []), some (.eorIndx 0x34, []), some (.eorIndy 0x34, [])] := by decide

/-- R186. -/
theorem test_decode_BIT :
    ([
      [0x24, 0x34], [0x2C, 0x34, 0x12]].map reads) = [
      some (.bitZp 0x34, []), some (.bitAbs 0x1234, [])] := by decide

/-- R188. -/
theorem test_decode_CMP :
    ([
      [0xC9, 0x34], [0xC5, 0x34], [0xD5, 0x34], [0xCD, 0x34, 0x12], [0xDD, 0x34, 0x12], [0xD9, 0x34, 0x12],
      [0xC1, 0x34], [0xD1, 0x34]].map reads) = [
      some (.cmpImm 0x34, []), some (.cmpZp 0x34, []), some (.cmpZpx 0x34, []), some (.cmpAbs 0x1234, []), some
      (.cmpAbsx 0x1234, []), some (.cmpAbsy 0x1234, []), some (.cmpIndx 0x34, []), some (.cmpIndy 0x34, [])] := by decide

/-- R189. -/
theorem test_decode_CPX :
    ([
      [0xE0, 0x34], [0xE4, 0x34], [0xEC, 0x34, 0x12]].map reads) = [
      some (.cpxImm 0x34, []), some (.cpxZp 0x34, []), some (.cpxAbs 0x1234, [])] := by decide

/-- R190. -/
theorem test_decode_CPY :
    ([
      [0xC0, 0x34], [0xC4, 0x34], [0xCC, 0x34, 0x12]].map reads) = [
      some (.cpyImm 0x34, []), some (.cpyZp 0x34, []), some (.cpyAbs 0x1234, [])] := by decide

/-- R191. -/
theorem test_decode_INC :
    ([
      [0xE6, 0x34], [0xF6, 0x34], [0xEE, 0x34, 0x12], [0xFE, 0x34, 0x12]].map reads) = [
      some (.incZp 0x34, []), some (.incZpx 0x34, []), some (.incAbs 0x1234, []), some (.incAbsx 0x1234, [])] := by decide

/-- R192. -/
theorem test_decode_DEC :
    ([
      [0xC6, 0x34], [0xD6, 0x34], [0xCE, 0x34, 0x12], [0xDE, 0x34, 0x12]].map reads) = [
      some (.decZp 0x34, []), some (.decZpx 0x34, []), some (.decAbs 0x1234, []), some (.decAbsx 0x1234, [])] := by decide

/-- R193. -/
theorem test_decode_INX :
    ([
      [0xE8, 0x34]].map reads) = [
      some (.inx, [0x34])] := by decide

/-- R194. -/
theorem test_decode_INY :
    ([
      [0xC8, 0x34]].map reads) = [
      some (.iny, [0x34])] := by decide

/-- R195. -/
theorem test_decode_DEX :
    ([
      [0xCA, 0x34]].map reads) = [
      some (.dex, [0x34])] := by decide

/-- R196. -/
theorem test_decode_DEY :
    ([
      [0x88, 0x34]].map reads) = [
      some (.dey, [0x34])] := by decide

/-- R198. -/
theorem test_decode_ASL :
    ([
      [0x0A, 0x34], [0x06, 0x34], [0x16, 0x34], [0x0E, 0x34, 0x12], [0x1E, 0x34, 0x12]].map reads) = [
      some (.aslAcc, [0x34]), some (.aslZp 0x34, []), some (.aslZpx 0x34, []), some (.aslAbs 0x1234, []), some
      (.aslAbsx 0x1234, [])] := by decide

/-- R199. -/
theorem test_decode_LSR :
    ([
      [0x4A, 0x34], [0x46, 0x34], [0x56, 0x34], [0x4E, 0x34, 0x12], [0x5E, 0x34, 0x12]].map reads) = [
      some (.lsrAcc, [0x34]), some (.lsrZp 0x34, []), some (.lsrZpx 0x34, []), some (.lsrAbs 0x1234, []), some
      (.lsrAbsx 0x1234, [])] := by decide

/-- R200. -/
theorem test_decode_ROL :
    ([
      [0x2A, 0x34], [0x26, 0x34], [0x36, 0x34], [0x2E, 0x34, 0x12], [0x3E, 0x34, 0x12]].map reads) = [
      some (.rolAcc, [0x34]), some (.rolZp 0x34, []), some (.rolZpx 0x34, []), some (.rolAbs 0x1234, []), some
      (.rolAbsx 0x1234, [])] := by decide

/-- R201. -/
theorem test_decode_ROR :
    ([
      [0x6A, 0x34], [0x66, 0x34], [0x76, 0x34], [0x6E, 0x34, 0x12], [0x7E, 0x34, 0x12]].map reads) = [
      some (.rorAcc, [0x34]), some (.rorZp 0x34, []), some (.rorZpx 0x34, []), some (.rorAbs 0x1234, []), some
      (.rorAbsx 0x1234, [])] := by decide

/-- R231. -/
theorem test_decode_BCC :
    ([
      [0x90, 0x34]].map reads) = [
      some (.bcc 0x34, [])] := by decide

/-- R232. -/
theorem test_decode_BCS :
    ([
      [0xB0, 0x34]].map reads) = [
      some (.bcs 0x34, [])] := by decide

/-- R233. -/
theorem test_decode_BEQ :
    ([
      [0xF0, 0x34]].map reads) = [
      some (.beq 0x34, [])] := by decide

/-- R234. -/
theorem test_decode_BMI :
    ([
      [0x30, 0x34]].map reads) = [
      some (.bmi 0x34, [])] := by decide

/-- R235. -/
theorem test_decode_BNE :
    ([
      [0xD0, 0x34]].map reads) = [
      some (.bne 0x34, [])] := by decide

/-- R236. -/
theorem test_decode_BPL :
    ([
      [0x10, 0x34]].map reads) = [
      some (.bpl 0x34, [])] := by decide

/-- R237. -/
theorem test_decode_BVC :
    ([
      [0x50, 0x34]].map reads) = [
      some (.bvc 0x34, [])] := by decide

/-- R238. -/
theorem test_decode_BVS :
    ([
      [0x70, 0x34]].map reads) = [
      some (.bvs 0x34, [])] := by decide

/-- R239. -/
theorem test_decode_JMP :
    ([
      [0x4C, 0x34, 0x12], [0x6C, 0x34, 0x12]].map reads) = [
      some (.jmpAbs 0x1234, []), some (.jmpInd 0x1234, [])] := by decide

/-- R240. -/
theorem test_decode_JSR :
    ([
      [0x20, 0x34, 0x12]].map reads) = [
      some (.jsr 0x1234, [])] := by decide

/-- R241. -/
theorem test_decode_RTS :
    ([
      [0x60, 0x34]].map reads) = [
      some (.rts, [0x34])] := by decide

/-- R260. -/
theorem test_decode_PHA :
    ([
      [0x48, 0x34]].map reads) = [
      some (.pha, [0x34])] := by decide

/-- R261. -/
theorem test_decode_PHP :
    ([
      [0x08, 0x34]].map reads) = [
      some (.php, [0x34])] := by decide

/-- R262. -/
theorem test_decode_PLA :
    ([
      [0x68, 0x34]].map reads) = [
      some (.pla, [0x34])] := by decide

/-- R263. -/
theorem test_decode_PLP :
    ([
      [0x28, 0x34]].map reads) = [
      some (.plp, [0x34])] := by decide

/-- R264. -/
theorem test_decode_CLC :
    ([
      [0x18, 0x34]].map reads) = [
      some (.clc, [0x34])] := by decide

/-- R265. -/
theorem test_decode_CLD :
    ([
      [0xD8, 0x34]].map reads) = [
      some (.cld, [0x34])] := by decide

/-- R266. -/
theorem test_decode_CLI :
    ([
      [0x58, 0x34]].map reads) = [
      some (.cli, [0x34])] := by decide

/-- R267. -/
theorem test_decode_CLV :
    ([
      [0xB8, 0x34]].map reads) = [
      some (.clv, [0x34])] := by decide

/-- R268. -/
theorem test_decode_SEC :
    ([
      [0x38, 0x34]].map reads) = [
      some (.sec, [0x34])] := by decide

/-- R269. -/
theorem test_decode_SED :
    ([
      [0xF8, 0x34]].map reads) = [
      some (.sed, [0x34])] := by decide

/-- R270. -/
theorem test_decode_SEI :
    ([
      [0x78, 0x34]].map reads) = [
      some (.sei, [0x34])] := by decide

/-- R271. -/
theorem test_decode_NOP :
    ([
      [0xEA, 0x34]].map reads) = [
      some (.nop, [0x34])] := by decide

/-- R272. -/
theorem test_decode_BRK :
    ([
      [0x00, 0x34, 0x12]].map reads) = [
      some (.brk, [0x12])] := by decide

/-- R273. -/
theorem test_decode_RTI :
    ([
      [0x40, 0x34]].map reads) = [
      some (.rti, [0x34])] := by decide

/-- R291. -/
theorem test_decode_SLO :
    ([
      [0x07, 0x34], [0x17, 0x34], [0x0F, 0x34, 0x12], [0x1F, 0x34, 0x12], [0x1B, 0x34, 0x12], [0x03, 0x34],
      [0x13, 0x34]].map reads) = [
      some (.sloZp 0x34, []), some (.sloZpx 0x34, []), some (.sloAbs 0x1234, []), some (.sloAbsx 0x1234, []),
      some (.sloAbsy 0x1234, []), some (.sloIndx 0x34, []), some (.sloIndy 0x34, [])] := by decide

/-- R292. -/
theorem test_decode_RLA :
    ([
      [0x27, 0x34], [0x37, 0x34], [0x2F, 0x34, 0x12], [0x3F, 0x34, 0x12], [0x3B, 0x34, 0x12], [0x23, 0x34],
      [0x33, 0x34]].map reads) = [
      some (.rlaZp 0x34, []), some (.rlaZpx 0x34, []), some (.rlaAbs 0x1234, []), some (.rlaAbsx 0x1234, []),
      some (.rlaAbsy 0x1234, []), some (.rlaIndx 0x34, []), some (.rlaIndy 0x34, [])] := by decide

/-- R293. -/
theorem test_decode_SRE :
    ([
      [0x47, 0x34], [0x57, 0x34], [0x4F, 0x34, 0x12], [0x5F, 0x34, 0x12], [0x5B, 0x34, 0x12], [0x43, 0x34],
      [0x53, 0x34]].map reads) = [
      some (.sreZp 0x34, []), some (.sreZpx 0x34, []), some (.sreAbs 0x1234, []), some (.sreAbsx 0x1234, []),
      some (.sreAbsy 0x1234, []), some (.sreIndx 0x34, []), some (.sreIndy 0x34, [])] := by decide

/-- R294. -/
theorem test_decode_RRA :
    ([
      [0x67, 0x34], [0x77, 0x34], [0x6F, 0x34, 0x12], [0x7F, 0x34, 0x12], [0x7B, 0x34, 0x12], [0x63, 0x34],
      [0x73, 0x34]].map reads) = [
      some (.rraZp 0x34, []), some (.rraZpx 0x34, []), some (.rraAbs 0x1234, []), some (.rraAbsx 0x1234, []),
      some (.rraAbsy 0x1234, []), some (.rraIndx 0x34, []), some (.rraIndy 0x34, [])] := by decide

/-- R295. -/
theorem test_decode_DCP :
    ([
      [0xC7, 0x34], [0xD7, 0x34], [0xCF, 0x34, 0x12], [0xDF, 0x34, 0x12], [0xDB, 0x34, 0x12], [0xC3, 0x34],
      [0xD3, 0x34]].map reads) = [
      some (.dcpZp 0x34, []), some (.dcpZpx 0x34, []), some (.dcpAbs 0x1234, []), some (.dcpAbsx 0x1234, []),
      some (.dcpAbsy 0x1234, []), some (.dcpIndx 0x34, []), some (.dcpIndy 0x34, [])] := by decide

/-- R296. -/
theorem test_decode_ISC :
    ([
      [0xE7, 0x34], [0xF7, 0x34], [0xEF, 0x34, 0x12], [0xFF, 0x34, 0x12], [0xFB, 0x34, 0x12], [0xE3, 0x34],
      [0xF3, 0x34]].map reads) = [
      some (.iscZp 0x34, []), some (.iscZpx 0x34, []), some (.iscAbs 0x1234, []), some (.iscAbsx 0x1234, []),
      some (.iscAbsy 0x1234, []), some (.iscIndx 0x34, []), some (.iscIndy 0x34, [])] := by decide

/-- R297. -/
theorem test_decode_LAX :
    ([
      [0xA7, 0x34], [0xB7, 0x34], [0xAF, 0x34, 0x12], [0xBF, 0x34, 0x12], [0xA3, 0x34], [0xB3, 0x34]].map reads) = [
      some (.laxZp 0x34, []), some (.laxZpy 0x34, []), some (.laxAbs 0x1234, []), some (.laxAbsy 0x1234, []),
      some (.laxIndx 0x34, []), some (.laxIndy 0x34, [])] := by decide

/-- R298. -/
theorem test_decode_SAX :
    ([
      [0x87, 0x34], [0x97, 0x34], [0x8F, 0x34, 0x12], [0x83, 0x34]].map reads) = [
      some (.saxZp 0x34, []), some (.saxZpy 0x34, []), some (.saxAbs 0x1234, []), some (.saxIndx 0x34, [])] := by decide

/-- R299. -/
theorem test_decode_SBC_alias :
    ([
      [0xEB, 0x34]].map reads) = [
      some (.sbcImmEB 0x34, [])] := by decide

/-- R300. -/
theorem test_decode_NOP_unofficial :
    ([
      [0x1A, 0x34], [0x3A, 0x34], [0x5A, 0x34], [0x7A, 0x34], [0xDA, 0x34], [0xFA, 0x34], [0x80, 0x34], [0x82,
      0x34], [0x89, 0x34], [0xC2, 0x34], [0xE2, 0x34], [0x04, 0x34], [0x44, 0x34], [0x64, 0x34], [0x14, 0x34],
      [0x34, 0x34], [0x54, 0x34], [0x74, 0x34], [0xD4, 0x34], [0xF4, 0x34], [0x0C, 0x34, 0x12], [0x1C, 0x34,
      0x12], [0x3C, 0x34, 0x12], [0x5C, 0x34, 0x12], [0x7C, 0x34, 0x12], [0xDC, 0x34, 0x12], [0xFC, 0x34, 0x12]].map reads) = [
      some (.nopImp1A, [0x34]), some (.nopImp3A, [0x34]), some (.nopImp5A, [0x34]), some (.nopImp7A, [0x34]),
      some (.nopImpDA, [0x34]), some (.nopImpFA, [0x34]), some (.nopImm80 0x34, []), some (.nopImm82 0x34, []),
      some (.nopImm89 0x34, []), some (.nopImmC2 0x34, []), some (.nopImmE2 0x34, []), some (.nopZp04 0x34, []),
      some (.nopZp44 0x34, []), some (.nopZp64 0x34, []), some (.nopZpx14 0x34, []), some (.nopZpx34 0x34, []),
      some (.nopZpx54 0x34, []), some (.nopZpx74 0x34, []), some (.nopZpxD4 0x34, []), some (.nopZpxF4 0x34,
      []), some (.nopAbs0C 0x1234, []), some (.nopAbsx1C 0x1234, []), some (.nopAbsx3C 0x1234, []), some
      (.nopAbsx5C 0x1234, []), some (.nopAbsx7C 0x1234, []), some (.nopAbsxDC 0x1234, []), some (.nopAbsxFC
      0x1234, [])] := by decide

/-- R112, R115: the unmapped bytes take no operand. -/
theorem test_decode_unmapped :
    ([
      0x02, 0x12, 0x22, 0x32, 0x42, 0x52, 0x62, 0x72, 0x92, 0xB2, 0xD2, 0xF2, 0x0B, 0x2B, 0x4B, 0x6B, 0x8B,
      0xAB, 0xCB, 0x93, 0x9B, 0x9C, 0x9E, 0x9F, 0xBB].map fun b => reads [b, 0x34]) = [
      some (.illegal02, [0x34]), some (.illegal12, [0x34]), some (.illegal22, [0x34]), some (.illegal32,
      [0x34]), some (.illegal42, [0x34]), some (.illegal52, [0x34]), some (.illegal62, [0x34]), some
      (.illegal72, [0x34]), some (.illegal92, [0x34]), some (.illegalB2, [0x34]), some (.illegalD2, [0x34]),
      some (.illegalF2, [0x34]), some (.illegal0B, [0x34]), some (.illegal2B, [0x34]), some (.illegal4B,
      [0x34]), some (.illegal6B, [0x34]), some (.illegal8B, [0x34]), some (.illegalAB, [0x34]), some
      (.illegalCB, [0x34]), some (.illegal93, [0x34]), some (.illegal9B, [0x34]), some (.illegal9C, [0x34]),
      some (.illegal9E, [0x34]), some (.illegal9F, [0x34]), some (.illegalBB, [0x34])] := by decide

/-- Words bit by bit, one for each family: LDA # is 1010 1001 (R151), ROR A is 0110 1010 (R201), BVS is 0111 0000 (R238),
PLP is 0010 1000 (R263), SLO (zp),Y is 0001 0011 (R291), and the unmapped $02 is 0000 0010 (R112). -/
theorem test_decode_bits :
    [reads [0b10101001, 0b00110100], reads [0b01101010], reads [0b01110000, 0b11111110], reads [0b00101000],
      reads [0b00010011, 0b00110100], reads [0b00000010]] =
    [some (.ldaImm 0x34, []), some (.rorAcc, []), some (.bvs 0xFE, []), some (.plp, []),
      some (.sloIndy 0x34, []), some (.illegal02, [])] := by decide

/-- R92: no opcode, and too few operand bytes. -/
theorem test_decode_refuses :
    [reads [], reads [0xA9], reads [0xAD, 0x34], reads [0x00]] = [none, none, none, none] := by decide

/-- R92: the encoder writes the low byte first. -/
theorem test_encode : encode (.jmpInd 0x1234) = [0x6C, 0x34, 0x12] ∧ encode .brk = [0x00, 0x00] := by decide

/-- The table's numbering of bits: the first byte is the lowest (LDA abs $1234, three bytes). -/
theorem test_decodeTableWord : decodeTableWord 24 0x1234AD = some (.ldaAbs 0x1234) ∧
    decodeTableWord 8 0xAD = some (.ldaAbs 0x0000) := by decide

/-! ### Vectors of spec/95_test_vectors.md, one Step each -/

/-- Construction with the default parameters over the listed bytes, as the vectors' conventions say. -/
def ram (cells : Memory) : State := construct Config.defaultParams cells

/-- The state after one Step. -/
def stepped (s : State) : Option State :=
  match step s with
  | .next t => some t
  | .fault _ => none
  | .refused _ => none

/-- The port writes of the latest Step, in order. -/
def writes (s : State) : List (Word × Byte) :=
  s.portCalls.filterMap fun c =>
    match c with
    | .write a v => some (a, v)
    | .read _ _ => none

/-- TV-LS-7: LDA (zp),Y page cross. -/
theorem test_TV_LS_7 :
    (stepped ({ ram [(0x0010, 0xF0), (0x0011, 0x12), (0x1310, 0x01), (0x8000, 0xB1), (0x8001, 0x10), (0xFFFD, 0x80)] with y := 0x20 })).map (fun t => ([t.a, t.y, pack t.p], t.pc, t.cycles, writes t)) =
      some ([0x01, 0x20, 0x24], 0x8002, 13, []) := by decide

/-- TV-LS-8: LDA (zp,X) pointer wraps at $FF. -/
theorem test_TV_LS_8 :
    (stepped ({ ram [(0x0000, 0x12), (0x00FF, 0x34), (0x0100, 0x56), (0x1234, 0xC0), (0x8000, 0xA1), (0x8001, 0xFE), (0xFFFD, 0x80)] with x := 0x01 })).map (fun t => ([t.a, t.x, pack t.p], t.pc, t.cycles, writes t)) =
      some ([0xC0, 0x01, 0xA4], 0x8002, 13, []) := by decide

/-- TV-LS-10: LDX zp,Y wraps. -/
theorem test_TV_LS_10 :
    (stepped ({ ram [(0x8000, 0xB6), (0x8001, 0xFF), (0xFFFD, 0x80)] with x := 0x55, y := 0x02 })).map (fun t => ([t.x, t.y, pack t.p], t.pc, t.cycles, writes t)) =
      some ([0x00, 0x02, 0x26], 0x8002, 11, []) := by decide

/-- TV-LS-11: LDY abs,X page cross. -/
theorem test_TV_LS_11 :
    (stepped ({ ram [(0x2110, 0x80), (0x8000, 0xBC), (0x8001, 0xF0), (0x8002, 0x20), (0xFFFD, 0x80)] with x := 0x20 })).map (fun t => ([t.x, t.y, pack t.p], t.pc, t.cycles, writes t)) =
      some ([0x20, 0x80, 0xA4], 0x8003, 12, []) := by decide

/-- TV-LS-12: STA abs,X page cross: no extra cycle, no flag. -/
theorem test_TV_LS_12 :
    (stepped ({ ram [(0x8000, 0x9D), (0x8001, 0xFF), (0x8002, 0x12), (0xFFFD, 0x80)] with a := 0x00, x := 0x01 })).map (fun t => ([t.a, t.x, pack t.p], t.pc, t.cycles, writes t)) =
      some ([0x00, 0x01, 0x24], 0x8003, 12, [(0x1300, 0x00)]) := by decide

/-- TV-LS-13: STA (zp),Y. -/
theorem test_TV_LS_13 :
    (stepped ({ ram [(0x0011, 0x03), (0x8000, 0x91), (0x8001, 0x10), (0xFFFD, 0x80)] with a := 0x77, y := 0x05 })).map (fun t => ([t.a, t.y, pack t.p], t.pc, t.cycles, writes t)) =
      some ([0x77, 0x05, 0x24], 0x8002, 13, [(0x0305, 0x77)]) := by decide

/-- TV-LS-14: STX zp,Y wraps. -/
theorem test_TV_LS_14 :
    (stepped ({ ram [(0x8000, 0x96), (0x8001, 0xFF), (0xFFFD, 0x80)] with x := 0xAB, y := 0x02 })).map (fun t => ([t.x, t.y, pack t.p], t.pc, t.cycles, writes t)) =
      some ([0xAB, 0x02, 0x24], 0x8002, 11, [(0x0001, 0xAB)]) := by decide

/-- TV-LS-15: STY abs. -/
theorem test_TV_LS_15 :
    (stepped ({ ram [(0x8000, 0x8C), (0x8002, 0x04), (0xFFFD, 0x80)] with y := 0x80 })).map (fun t => ([t.y, pack t.p], t.pc, t.cycles, writes t)) =
      some ([0x80, 0x24], 0x8003, 11, [(0x0400, 0x80)]) := by decide

/-- TV-LS-16: TAX zero. -/
theorem test_TV_LS_16 :
    (stepped ({ ram [(0x8000, 0xAA), (0xFFFD, 0x80)] with a := 0x00, x := 0x12 })).map (fun t => ([t.a, t.x, pack t.p], t.pc, t.cycles, writes t)) =
      some ([0x00, 0x00, 0x26], 0x8001, 9, []) := by decide

/-- TV-LS-17: TAY negative. -/
theorem test_TV_LS_17 :
    (stepped ({ ram [(0x8000, 0xA8), (0xFFFD, 0x80)] with a := 0xF0 })).map (fun t => ([t.a, t.y, pack t.p], t.pc, t.cycles, writes t)) =
      some ([0xF0, 0xF0, 0xA4], 0x8001, 9, []) := by decide

/-- TV-LS-18: TXA. -/
theorem test_TV_LS_18 :
    (stepped ({ ram [(0x8000, 0x8A), (0xFFFD, 0x80)] with x := 0x01, a := 0xFF })).map (fun t => ([t.a, t.x, pack t.p], t.pc, t.cycles, writes t)) =
      some ([0x01, 0x01, 0x24], 0x8001, 9, []) := by decide

/-- TV-LS-19: TYA. -/
theorem test_TV_LS_19 :
    (stepped ({ ram [(0x8000, 0x98), (0xFFFD, 0x80)] with y := 0x80 })).map (fun t => ([t.a, t.y, pack t.p], t.pc, t.cycles, writes t)) =
      some ([0x80, 0x80, 0xA4], 0x8001, 9, []) := by decide

/-- TV-LS-20: TSX sets N from SP. -/
theorem test_TV_LS_20 :
    (stepped (ram [(0x8000, 0xBA), (0xFFFD, 0x80)])).map (fun t => ([t.x, pack t.p], t.pc, t.cycles, writes t)) =
      some ([0xFD, 0xA4], 0x8001, 9, []) := by decide

/-- TV-LS-21: TXS writes no flag. -/
theorem test_TV_LS_21 :
    (stepped ({ ram [(0x8000, 0x9A), (0xFFFD, 0x80)] with x := 0x00 })).map (fun t => ([t.x, t.sp, pack t.p], t.pc, t.cycles, writes t)) =
      some ([0x00, 0x00, 0x24], 0x8001, 9, []) := by decide

/-- TV-ALU-3: ADC #, C=0. -/
theorem test_TV_ALU_3 :
    (stepped ({ ram [(0x8000, 0x69), (0x8001, 0x80), (0xFFFD, 0x80)] with a := 0x80, p := unpack 0x24 })).map (fun t => ([t.a, pack t.p], t.pc, t.cycles, writes t)) =
      some ([0x00, 0x67], 0x8002, 9, []) := by decide

/-- TV-ALU-9: ADC #, C=1. -/
theorem test_TV_ALU_9 :
    (stepped ({ ram [(0x8000, 0x69), (0x8001, 0x80), (0xFFFD, 0x80)] with a := 0x7F, p := unpack 0x25 })).map (fun t => ([t.a, pack t.p], t.pc, t.cycles, writes t)) =
      some ([0x00, 0x27], 0x8002, 9, []) := by decide

/-- TV-ALU-16: SBC #, C=1. -/
theorem test_TV_ALU_16 :
    (stepped ({ ram [(0x8000, 0xE9), (0x8001, 0x70), (0xFFFD, 0x80)] with a := 0xD0, p := unpack 0x25 })).map (fun t => ([t.a, pack t.p], t.pc, t.cycles, writes t)) =
      some ([0x60, 0x65], 0x8002, 9, []) := by decide

/-- TV-ALU-20: SBC with D=1 stays binary. -/
theorem test_TV_ALU_20 :
    (stepped ({ ram [(0x8000, 0xE9), (0x8001, 0x01), (0xFFFD, 0x80)] with a := 0x10, p := unpack 0x2D })).map (fun t => ([t.a, pack t.p], t.pc, t.cycles, writes t)) =
      some ([0x0F, 0x2D], 0x8002, 9, []) := by decide

/-- TV-ALU-23: AND # keeps C and V. -/
theorem test_TV_ALU_23 :
    (stepped ({ ram [(0x8000, 0x29), (0x8001, 0x0F), (0xFFFD, 0x80)] with a := 0xF0, p := unpack 0x65 })).map (fun t => ([t.a, pack t.p], t.pc, t.cycles, writes t)) =
      some ([0x00, 0x67], 0x8002, 9, []) := by decide

/-- TV-ALU-24: ORA #. -/
theorem test_TV_ALU_24 :
    (stepped ({ ram [(0x8000, 0x09), (0x8001, 0x80), (0xFFFD, 0x80)] with a := 0x01 })).map (fun t => ([t.a, pack t.p], t.pc, t.cycles, writes t)) =
      some ([0x81, 0xA4], 0x8002, 9, []) := by decide

/-- TV-ALU-25: EOR # self. -/
theorem test_TV_ALU_25 :
    (stepped ({ ram [(0x8000, 0x49), (0x8001, 0x5A), (0xFFFD, 0x80)] with a := 0x5A })).map (fun t => ([t.a, pack t.p], t.pc, t.cycles, writes t)) =
      some ([0x00, 0x26], 0x8002, 9, []) := by decide

/-- TV-ALU-26: BIT zp: N, V from memory. -/
theorem test_TV_ALU_26 :
    (stepped ({ ram [(0x0010, 0xC0), (0x8000, 0x24), (0x8001, 0x10), (0xFFFD, 0x80)] with a := 0x01 })).map (fun t => ([t.a, pack t.p], t.pc, t.cycles, writes t)) =
      some ([0x01, 0xE6], 0x8002, 10, []) := by decide

/-- TV-ALU-27: BIT abs: clears N, V; Z=0. -/
theorem test_TV_ALU_27 :
    (stepped ({ ram [(0x0200, 0x01), (0x8000, 0x2C), (0x8002, 0x02), (0xFFFD, 0x80)] with a := 0xFF, p := unpack 0xE4 })).map (fun t => ([t.a, pack t.p], t.pc, t.cycles, writes t)) =
      some ([0xFF, 0x24], 0x8003, 11, []) := by decide

/-- TV-ALU-30: CMP # greater, N from difference. -/
theorem test_TV_ALU_30 :
    (stepped ({ ram [(0x8000, 0xC9), (0xFFFD, 0x80)] with a := 0x80 })).map (fun t => ([t.a, pack t.p], t.pc, t.cycles, writes t)) =
      some ([0x80, 0xA5], 0x8002, 9, []) := by decide

/-- TV-ALU-31: CMP ignores carry-in and V. -/
theorem test_TV_ALU_31 :
    (stepped ({ ram [(0x8000, 0xC9), (0x8001, 0x10), (0xFFFD, 0x80)] with a := 0x20, p := unpack 0x64 })).map (fun t => ([t.a, pack t.p], t.pc, t.cycles, writes t)) =
      some ([0x20, 0x65], 0x8002, 9, []) := by decide

/-- TV-ALU-32: CPX #. -/
theorem test_TV_ALU_32 :
    (stepped ({ ram [(0x8000, 0xE0), (0x8001, 0x20), (0xFFFD, 0x80)] with x := 0x10 })).map (fun t => ([t.x, pack t.p], t.pc, t.cycles, writes t)) =
      some ([0x10, 0xA4], 0x8002, 9, []) := by decide

/-- TV-ALU-33: CPY #. -/
theorem test_TV_ALU_33 :
    (stepped ({ ram [(0x8000, 0xC0), (0xFFFD, 0x80)] with y := 0xFF })).map (fun t => ([t.y, pack t.p], t.pc, t.cycles, writes t)) =
      some ([0xFF, 0xA5], 0x8002, 9, []) := by decide

/-- TV-ALU-34: INC zp wraps, C kept. -/
theorem test_TV_ALU_34 :
    (stepped ({ ram [(0x0010, 0xFF), (0x8000, 0xE6), (0x8001, 0x10), (0xFFFD, 0x80)] with p := unpack 0x24 })).map (fun t => ([pack t.p], t.pc, t.cycles, writes t)) =
      some ([0x26], 0x8002, 12, [(0x0010, 0x00)]) := by decide

/-- TV-ALU-35: INC abs,X page cross: no extra cycle. -/
theorem test_TV_ALU_35 :
    (stepped ({ ram [(0x0300, 0x7F), (0x8000, 0xFE), (0x8001, 0xFF), (0x8002, 0x02), (0xFFFD, 0x80)] with x := 0x01 })).map (fun t => ([t.x, pack t.p], t.pc, t.cycles, writes t)) =
      some ([0x01, 0xA4], 0x8003, 14, [(0x0300, 0x80)]) := by decide

/-- TV-ALU-36: DEC abs. -/
theorem test_TV_ALU_36 :
    (stepped (ram [(0x8000, 0xCE), (0x8002, 0x02), (0xFFFD, 0x80)])).map (fun t => ([pack t.p], t.pc, t.cycles, writes t)) =
      some ([0xA4], 0x8003, 13, [(0x0200, 0xFF)]) := by decide

/-- TV-ALU-37: INX wraps. -/
theorem test_TV_ALU_37 :
    (stepped ({ ram [(0x8000, 0xE8), (0xFFFD, 0x80)] with x := 0xFF })).map (fun t => ([t.x, pack t.p], t.pc, t.cycles, writes t)) =
      some ([0x00, 0x26], 0x8001, 9, []) := by decide

/-- TV-ALU-38: INY. -/
theorem test_TV_ALU_38 :
    (stepped ({ ram [(0x8000, 0xC8), (0xFFFD, 0x80)] with y := 0x7F })).map (fun t => ([t.y, pack t.p], t.pc, t.cycles, writes t)) =
      some ([0x80, 0xA4], 0x8001, 9, []) := by decide

/-- TV-ALU-39: DEX to zero. -/
theorem test_TV_ALU_39 :
    (stepped ({ ram [(0x8000, 0xCA), (0xFFFD, 0x80)] with x := 0x01 })).map (fun t => ([t.x, pack t.p], t.pc, t.cycles, writes t)) =
      some ([0x00, 0x26], 0x8001, 9, []) := by decide

/-- TV-ALU-40: DEY wraps. -/
theorem test_TV_ALU_40 :
    (stepped ({ ram [(0x8000, 0x88), (0xFFFD, 0x80)] with y := 0x00 })).map (fun t => ([t.y, pack t.p], t.pc, t.cycles, writes t)) =
      some ([0xFF, 0xA4], 0x8001, 9, []) := by decide

/-- TV-ALU-42: ASL A to zero. -/
theorem test_TV_ALU_42 :
    (stepped ({ ram [(0x8000, 0x0A), (0xFFFD, 0x80)] with a := 0x80 })).map (fun t => ([t.a, pack t.p], t.pc, t.cycles, writes t)) =
      some ([0x00, 0x27], 0x8001, 9, []) := by decide

/-- TV-ALU-43: ASL zp. -/
theorem test_TV_ALU_43 :
    (stepped (ram [(0x0010, 0x40), (0x8000, 0x06), (0x8001, 0x10), (0xFFFD, 0x80)])).map (fun t => ([pack t.p], t.pc, t.cycles, writes t)) =
      some ([0xA4], 0x8002, 12, [(0x0010, 0x80)]) := by decide

/-- TV-ALU-44: LSR A. -/
theorem test_TV_ALU_44 :
    (stepped ({ ram [(0x8000, 0x4A), (0xFFFD, 0x80)] with a := 0x01 })).map (fun t => ([t.a, pack t.p], t.pc, t.cycles, writes t)) =
      some ([0x00, 0x27], 0x8001, 9, []) := by decide

/-- TV-ALU-45: LSR zp,X. -/
theorem test_TV_ALU_45 :
    (stepped ({ ram [(0x0010, 0xFF), (0x8000, 0x56), (0x8001, 0x0F), (0xFFFD, 0x80)] with x := 0x01 })).map (fun t => ([t.x, pack t.p], t.pc, t.cycles, writes t)) =
      some ([0x01, 0x25], 0x8002, 13, [(0x0010, 0x7F)]) := by decide

/-- TV-ALU-46: ROL A, C in. -/
theorem test_TV_ALU_46 :
    (stepped ({ ram [(0x8000, 0x2A), (0xFFFD, 0x80)] with a := 0x40, p := unpack 0x25 })).map (fun t => ([t.a, pack t.p], t.pc, t.cycles, writes t)) =
      some ([0x81, 0xA4], 0x8001, 9, []) := by decide

/-- TV-ALU-47: ROL A, C out. -/
theorem test_TV_ALU_47 :
    (stepped ({ ram [(0x8000, 0x2A), (0xFFFD, 0x80)] with a := 0x80 })).map (fun t => ([t.a, pack t.p], t.pc, t.cycles, writes t)) =
      some ([0x00, 0x27], 0x8001, 9, []) := by decide

/-- TV-ALU-48: ROR A, C in. -/
theorem test_TV_ALU_48 :
    (stepped ({ ram [(0x8000, 0x6A), (0xFFFD, 0x80)] with a := 0x02, p := unpack 0x25 })).map (fun t => ([t.a, pack t.p], t.pc, t.cycles, writes t)) =
      some ([0x81, 0xA4], 0x8001, 9, []) := by decide

/-- TV-ALU-49: ROR abs, C out. -/
theorem test_TV_ALU_49 :
    (stepped (ram [(0x0200, 0x01), (0x8000, 0x6E), (0x8002, 0x02), (0xFFFD, 0x80)])).map (fun t => ([pack t.p], t.pc, t.cycles, writes t)) =
      some ([0x27], 0x8003, 13, [(0x0200, 0x00)]) := by decide

/-- TV-CT-1: BCS not taken. -/
theorem test_TV_CT_1 :
    (stepped (ram [(0x8000, 0xB0), (0x8001, 0x10), (0xFFFD, 0x80)])).map (fun t => ([pack t.p], t.pc, t.cycles, writes t)) =
      some ([0x24], 0x8002, 9, []) := by decide

/-- TV-CT-2: BCC taken, same page. -/
theorem test_TV_CT_2 :
    (stepped (ram [(0x8000, 0x90), (0x8001, 0x10), (0xFFFD, 0x80)])).map (fun t => ([pack t.p], t.pc, t.cycles, writes t)) =
      some ([0x24], 0x8012, 10, []) := by decide

/-- TV-CT-3: BEQ taken, page cross. -/
theorem test_TV_CT_3 :
    (stepped ({ ram [(0x80F0, 0xF0), (0x80F1, 0x20), (0xFFFC, 0xF0), (0xFFFD, 0x80)] with p := unpack 0x26 })).map (fun t => ([pack t.p], t.pc, t.cycles, writes t)) =
      some ([0x26], 0x8112, 11, []) := by decide

/-- TV-CT-4: BMI taken backward across a page. -/
theorem test_TV_CT_4 :
    (stepped ({ ram [(0x8010, 0x30), (0x8011, 0x80), (0xFFFC, 0x10), (0xFFFD, 0x80)] with p := unpack 0xA4 })).map (fun t => ([pack t.p], t.pc, t.cycles, writes t)) =
      some ([0xA4], 0x7F92, 11, []) := by decide

/-- TV-CT-5: BNE taken backward, same page. -/
theorem test_TV_CT_5 :
    (stepped (ram [(0x8005, 0xD0), (0x8006, 0xF9), (0xFFFC, 0x05), (0xFFFD, 0x80)])).map (fun t => ([pack t.p], t.pc, t.cycles, writes t)) =
      some ([0x24], 0x8000, 10, []) := by decide

/-- TV-CT-10: BNE offset $FE at $80FE (page(PC+2) != page(PC)). -/
theorem test_TV_CT_10 :
    (stepped (ram [(0x80FE, 0xD0), (0x80FF, 0xFE), (0xFFFC, 0xFE), (0xFFFD, 0x80)])).map (fun t => ([pack t.p], t.pc, t.cycles, writes t)) =
      some ([0x24], 0x80FE, 11, []) := by decide

/-- TV-CT-6: BPL offset 0 taken. -/
theorem test_TV_CT_6 :
    (stepped (ram [(0x80FD, 0x10), (0xFFFC, 0xFD), (0xFFFD, 0x80)])).map (fun t => ([pack t.p], t.pc, t.cycles, writes t)) =
      some ([0x24], 0x80FF, 10, []) := by decide

/-- TV-CT-7: BVC taken: target on the page of PC+2, not of the branch. -/
theorem test_TV_CT_7 :
    (stepped (ram [(0x80FE, 0x50), (0x80FF, 0x01), (0xFFFC, 0xFE), (0xFFFD, 0x80)])).map (fun t => ([pack t.p], t.pc, t.cycles, writes t)) =
      some ([0x24], 0x8101, 10, []) := by decide

/-- TV-CT-8: BVS at $FFFE, PC+2 wraps to $0000. -/
theorem test_TV_CT_8 :
    (stepped ({ ram [(0xFFFC, 0xFE), (0xFFFD, 0xFF), (0xFFFE, 0x70)] with p := unpack 0x64 })).map (fun t => ([pack t.p], t.pc, t.cycles, writes t)) =
      some ([0x64], 0x0000, 10, []) := by decide

/-- TV-CT-12: JMP ($12FF) page-wrap bug. -/
theorem test_TV_CT_12 :
    (stepped (ram [(0x1200, 0x90), (0x1300, 0x50), (0x8000, 0x6C), (0x8001, 0xFF), (0x8002, 0x12), (0xFFFD, 0x80)])).map (fun t => ([pack t.p], t.pc, t.cycles, writes t)) =
      some ([0x24], 0x9000, 12, []) := by decide

/-- TV-CT-14: JMP to itself. -/
theorem test_TV_CT_14 :
    (stepped (ram [(0x8000, 0x4C), (0x8002, 0x80), (0xFFFD, 0x80)])).map (fun t => ([pack t.p], t.pc, t.cycles, writes t)) =
      some ([0x24], 0x8000, 10, []) := by decide

/-- TV-CT-15: JSR. -/
theorem test_TV_CT_15 :
    (stepped (ram [(0x8000, 0x20), (0x8002, 0x90), (0xFFFD, 0x80)])).map (fun t => ([t.sp, pack t.p], t.pc, t.cycles, writes t)) =
      some ([0xFB, 0x24], 0x9000, 13, [(0x01FD, 0x80), (0x01FC, 0x02)]) := by decide

/-- TV-CT-18: JSR with SP=$00 wraps. -/
theorem test_TV_CT_18 :
    (stepped ({ ram [(0x8000, 0x20), (0x8002, 0x90), (0xFFFD, 0x80)] with sp := 0x00 })).map (fun t => ([t.sp, pack t.p], t.pc, t.cycles, writes t)) =
      some ([0xFE, 0x24], 0x9000, 13, [(0x0100, 0x80), (0x01FF, 0x02)]) := by decide

/-- TV-CT-16: RTS. -/
theorem test_TV_CT_16 :
    (stepped ({ ram [(0x01FC, 0x02), (0x01FD, 0x80), (0x9000, 0x60), (0xFFFD, 0x90)] with sp := 0xFB })).map (fun t => ([t.sp, pack t.p], t.pc, t.cycles, writes t)) =
      some ([0xFD, 0x24], 0x8003, 13, []) := by decide

/-- TV-CT-17: RTS with SP=$FF wraps; $FFFF returns to $0000. -/
theorem test_TV_CT_17 :
    (stepped ({ ram [(0x0100, 0xFF), (0x0101, 0xFF), (0x9000, 0x60), (0xFFFD, 0x90)] with sp := 0xFF })).map (fun t => ([t.sp, pack t.p], t.pc, t.cycles, writes t)) =
      some ([0x01, 0x24], 0x0000, 13, []) := by decide

/-- TV-SF-1: PHA. -/
theorem test_TV_SF_1 :
    (stepped ({ ram [(0x8000, 0x48), (0xFFFD, 0x80)] with a := 0x42 })).map (fun t => ([t.a, t.sp, pack t.p], t.pc, t.cycles, writes t)) =
      some ([0x42, 0xFC, 0x24], 0x8001, 10, [(0x01FD, 0x42)]) := by decide

/-- TV-SF-2: PHA at SP=$00 wraps. -/
theorem test_TV_SF_2 :
    (stepped ({ ram [(0x8000, 0x48), (0xFFFD, 0x80)] with a := 0x42, sp := 0x00 })).map (fun t => ([t.a, t.sp, pack t.p], t.pc, t.cycles, writes t)) =
      some ([0x42, 0xFF, 0x24], 0x8001, 10, [(0x0100, 0x42)]) := by decide

/-- TV-SF-3: PHP after reset. -/
theorem test_TV_SF_3 :
    (stepped (ram [(0x8000, 0x08), (0xFFFD, 0x80)])).map (fun t => ([t.sp, pack t.p], t.pc, t.cycles, writes t)) =
      some ([0xFC, 0x24], 0x8001, 10, [(0x01FD, 0x34)]) := by decide

/-- TV-SF-4: PHP with N V D Z C. -/
theorem test_TV_SF_4 :
    (stepped ({ ram [(0x8000, 0x08), (0xFFFD, 0x80)] with sp := 0xFF, p := unpack 0xEF })).map (fun t => ([t.sp, pack t.p], t.pc, t.cycles, writes t)) =
      some ([0xFE, 0xEF], 0x8001, 10, [(0x01FF, 0xFF)]) := by decide

/-- TV-SF-5: PLA zero. -/
theorem test_TV_SF_5 :
    (stepped ({ ram [(0x8000, 0x68), (0xFFFD, 0x80)] with a := 0x11, sp := 0xFC })).map (fun t => ([t.a, t.sp, pack t.p], t.pc, t.cycles, writes t)) =
      some ([0x00, 0xFD, 0x26], 0x8001, 11, []) := by decide

/-- TV-SF-6: PLA at SP=$FF wraps. -/
theorem test_TV_SF_6 :
    (stepped ({ ram [(0x0100, 0x80), (0x8000, 0x68), (0xFFFD, 0x80)] with sp := 0xFF })).map (fun t => ([t.a, t.sp, pack t.p], t.pc, t.cycles, writes t)) =
      some ([0x80, 0x00, 0xA4], 0x8001, 11, []) := by decide

/-- TV-SF-7: PLP $FF: B not stored. -/
theorem test_TV_SF_7 :
    (stepped ({ ram [(0x01FD, 0xFF), (0x8000, 0x28), (0xFFFD, 0x80)] with sp := 0xFC })).map (fun t => ([t.sp, pack t.p], t.pc, t.cycles, writes t)) =
      some ([0xFD, 0xEF], 0x8001, 11, []) := by decide

/-- TV-SF-8: PLP $00: U stays 1, I cleared. -/
theorem test_TV_SF_8 :
    (stepped ({ ram [(0x8000, 0x28), (0xFFFD, 0x80)] with sp := 0xFC })).map (fun t => ([t.sp, pack t.p], t.pc, t.cycles, writes t)) =
      some ([0xFD, 0x20], 0x8001, 11, []) := by decide

/-- TV-SF-9: CLC. -/
theorem test_TV_SF_9 :
    (stepped ({ ram [(0x8000, 0x18), (0xFFFD, 0x80)] with p := unpack 0x25 })).map (fun t => ([pack t.p], t.pc, t.cycles, writes t)) =
      some ([0x24], 0x8001, 9, []) := by decide

/-- TV-SF-10: CLD. -/
theorem test_TV_SF_10 :
    (stepped ({ ram [(0x8000, 0xD8), (0xFFFD, 0x80)] with p := unpack 0x2C })).map (fun t => ([pack t.p], t.pc, t.cycles, writes t)) =
      some ([0x24], 0x8001, 9, []) := by decide

/-- TV-SF-11: CLI. -/
theorem test_TV_SF_11 :
    (stepped (ram [(0x8000, 0x58), (0xFFFD, 0x80)])).map (fun t => ([pack t.p], t.pc, t.cycles, writes t)) =
      some ([0x20], 0x8001, 9, []) := by decide

/-- TV-SF-12: CLV. -/
theorem test_TV_SF_12 :
    (stepped ({ ram [(0x8000, 0xB8), (0xFFFD, 0x80)] with p := unpack 0x64 })).map (fun t => ([pack t.p], t.pc, t.cycles, writes t)) =
      some ([0x24], 0x8001, 9, []) := by decide

/-- TV-SF-13: SEC. -/
theorem test_TV_SF_13 :
    (stepped (ram [(0x8000, 0x38), (0xFFFD, 0x80)])).map (fun t => ([pack t.p], t.pc, t.cycles, writes t)) =
      some ([0x25], 0x8001, 9, []) := by decide

/-- TV-SF-14: SED. -/
theorem test_TV_SF_14 :
    (stepped (ram [(0x8000, 0xF8), (0xFFFD, 0x80)])).map (fun t => ([pack t.p], t.pc, t.cycles, writes t)) =
      some ([0x2C], 0x8001, 9, []) := by decide

/-- TV-SF-15: SEI. -/
theorem test_TV_SF_15 :
    (stepped ({ ram [(0x8000, 0x78), (0xFFFD, 0x80)] with p := unpack 0x20 })).map (fun t => ([pack t.p], t.pc, t.cycles, writes t)) =
      some ([0x24], 0x8001, 9, []) := by decide

/-- TV-SF-16: NOP. -/
theorem test_TV_SF_16 :
    (stepped (ram [(0x8000, 0xEA), (0xFFFD, 0x80)])).map (fun t => ([pack t.p], t.pc, t.cycles, writes t)) =
      some ([0x24], 0x8001, 9, []) := by decide

/-- TV-SF-17: BRK (IrqAddress=$C000, I=1). -/
theorem test_TV_SF_17 :
    (stepped (ram [(0x8001, 0xFF), (0xFFFD, 0x80), (0xFFFF, 0xC0)])).map (fun t => ([t.sp, pack t.p], t.pc, t.cycles, writes t)) =
      some ([0xFA, 0x24], 0xC000, 14, [(0x01FD, 0x80), (0x01FC, 0x02), (0x01FB, 0x34)]) := by decide

/-- TV-SF-18: BRK with I=0 is not masked. -/
theorem test_TV_SF_18 :
    (stepped ({ ram [(0xFFFD, 0x80), (0xFFFF, 0xC0)] with p := unpack 0xE3 })).map (fun t => ([t.sp, pack t.p], t.pc, t.cycles, writes t)) =
      some ([0xFA, 0xE7], 0xC000, 14, [(0x01FD, 0x80), (0x01FC, 0x02), (0x01FB, 0xF3)]) := by decide

/-- TV-SF-19: RTI. -/
theorem test_TV_SF_19 :
    (stepped ({ ram [(0x01FB, 0xA1), (0x01FC, 0x34), (0x01FD, 0x12), (0xC000, 0x40), (0xFFFD, 0xC0)] with sp := 0xFA, nmiRunning := true })).map (fun t => (([t.sp, pack t.p], [t.nmiRunning]), t.pc, t.cycles, writes t)) =
      some (([0xFD, 0xA1], [false]), 0x1234, 13, []) := by decide

/-- TV-SF-20: RTI clears both markers, B of popped byte dropped. -/
theorem test_TV_SF_20 :
    (stepped ({ ram [(0x01FB, 0x30), (0x01FD, 0x80), (0xC000, 0x40), (0xFFFD, 0xC0)] with sp := 0xFA, nmiRunning := true, irqRunning := true })).map (fun t => (([t.sp, pack t.p], [t.nmiRunning, t.irqRunning]), t.pc, t.cycles, writes t)) =
      some (([0xFD, 0x20], [false, false]), 0x8000, 13, []) := by decide

/-- TV-UN-1: SLO zp. -/
theorem test_TV_UN_1 :
    (stepped ({ ram [(0x0010, 0x81), (0x8000, 0x07), (0x8001, 0x10), (0xFFFD, 0x80)] with a := 0x01 })).map (fun t => ([t.a, pack t.p], t.pc, t.cycles, writes t)) =
      some ([0x03, 0x25], 0x8002, 12, [(0x0010, 0x02)]) := by decide

/-- TV-UN-2: SLO abs,Y page cross: no extra cycle. -/
theorem test_TV_UN_2 :
    (stepped ({ ram [(0x0300, 0x40), (0x8000, 0x1B), (0x8001, 0xFF), (0x8002, 0x02), (0xFFFD, 0x80)] with a := 0x00, y := 0x01 })).map (fun t => ([t.a, t.y, pack t.p], t.pc, t.cycles, writes t)) =
      some ([0x80, 0x01, 0xA4], 0x8003, 14, [(0x0300, 0x80)]) := by decide

/-- TV-UN-3: RLA zp. -/
theorem test_TV_UN_3 :
    (stepped ({ ram [(0x0010, 0x80), (0x8000, 0x27), (0x8001, 0x10), (0xFFFD, 0x80)] with a := 0xFF, p := unpack 0x25 })).map (fun t => ([t.a, pack t.p], t.pc, t.cycles, writes t)) =
      some ([0x01, 0x25], 0x8002, 12, [(0x0010, 0x01)]) := by decide

/-- TV-UN-4: SRE zp. -/
theorem test_TV_UN_4 :
    (stepped ({ ram [(0x0010, 0x03), (0x8000, 0x47), (0x8001, 0x10), (0xFFFD, 0x80)] with a := 0xFF })).map (fun t => ([t.a, pack t.p], t.pc, t.cycles, writes t)) =
      some ([0xFE, 0xA5], 0x8002, 12, [(0x0010, 0x01)]) := by decide

/-- TV-UN-6: RRA zp: ROR carry feeds ADC. -/
theorem test_TV_UN_6 :
    (stepped ({ ram [(0x0010, 0x01), (0x8000, 0x67), (0x8001, 0x10), (0xFFFD, 0x80)] with a := 0x00, p := unpack 0x24 })).map (fun t => ([t.a, pack t.p], t.pc, t.cycles, writes t)) =
      some ([0x01, 0x24], 0x8002, 12, [(0x0010, 0x00)]) := by decide

/-- TV-UN-7: RRA: V from ADC. -/
theorem test_TV_UN_7 :
    (stepped ({ ram [(0x0010, 0x02), (0x8000, 0x67), (0x8001, 0x10), (0xFFFD, 0x80)] with a := 0x7F, p := unpack 0x24 })).map (fun t => ([t.a, pack t.p], t.pc, t.cycles, writes t)) =
      some ([0x80, 0xE4], 0x8002, 12, [(0x0010, 0x01)]) := by decide

/-- TV-UN-9: DCP zp: $00 becomes $FF. -/
theorem test_TV_UN_9 :
    (stepped ({ ram [(0x8000, 0xC7), (0x8001, 0x10), (0xFFFD, 0x80)] with a := 0x10 })).map (fun t => ([t.a, pack t.p], t.pc, t.cycles, writes t)) =
      some ([0x10, 0x24], 0x8002, 12, [(0x0010, 0xFF)]) := by decide

/-- TV-UN-10: DCP (zp,X). -/
theorem test_TV_UN_10 :
    (stepped ({ ram [(0x0023, 0x03), (0x0300, 0x06), (0x8000, 0xC3), (0x8001, 0x20), (0xFFFD, 0x80)] with a := 0x05, x := 0x02 })).map (fun t => ([t.a, t.x, pack t.p], t.pc, t.cycles, writes t)) =
      some ([0x05, 0x02, 0x27], 0x8002, 15, [(0x0300, 0x05)]) := by decide

/-- TV-UN-11: ISC zp: $FF becomes $00. -/
theorem test_TV_UN_11 :
    (stepped ({ ram [(0x0010, 0xFF), (0x8000, 0xE7), (0x8001, 0x10), (0xFFFD, 0x80)] with a := 0x05, p := unpack 0x25 })).map (fun t => ([t.a, pack t.p], t.pc, t.cycles, writes t)) =
      some ([0x05, 0x25], 0x8002, 12, [(0x0010, 0x00)]) := by decide

/-- TV-UN-12: ISC (zp),Y. -/
theorem test_TV_UN_12 :
    (stepped ({ ram [(0x0010, 0xFF), (0x0011, 0x02), (0x8000, 0xF3), (0x8001, 0x10), (0xFFFD, 0x80)] with a := 0x80, y := 0x01, p := unpack 0x25 })).map (fun t => ([t.a, t.y, pack t.p], t.pc, t.cycles, writes t)) =
      some ([0x7F, 0x01, 0x65], 0x8002, 15, [(0x0300, 0x01)]) := by decide

/-- TV-UN-14: LAX abs,Y page cross. -/
theorem test_TV_UN_14 :
    (stepped ({ ram [(0x8000, 0xBF), (0x8001, 0xFF), (0x8002, 0x12), (0xFFFD, 0x80)] with y := 0x01 })).map (fun t => ([t.y, pack t.p], t.pc, t.cycles, writes t)) =
      some ([0x01, 0x26], 0x8003, 12, []) := by decide

/-- TV-UN-15: LAX zp,Y wraps. -/
theorem test_TV_UN_15 :
    (stepped ({ ram [(0x0010, 0x7F), (0x8000, 0xB7), (0x8001, 0xFF), (0xFFFD, 0x80)] with y := 0x11 })).map (fun t => ([t.a, t.x, t.y, pack t.p], t.pc, t.cycles, writes t)) =
      some ([0x7F, 0x7F, 0x11, 0x24], 0x8002, 11, []) := by decide

/-- TV-UN-16: SAX zp. -/
theorem test_TV_UN_16 :
    (stepped ({ ram [(0x8000, 0x87), (0x8001, 0x10), (0xFFFD, 0x80)] with a := 0xF0, x := 0x3C })).map (fun t => ([t.a, t.x, pack t.p], t.pc, t.cycles, writes t)) =
      some ([0xF0, 0x3C, 0x24], 0x8002, 10, [(0x0010, 0x30)]) := by decide

/-- TV-UN-17: SAX (zp,X). -/
theorem test_TV_UN_17 :
    (stepped ({ ram [(0x0081, 0x05), (0x8000, 0x83), (0xFFFD, 0x80)] with a := 0xFF, x := 0x80 })).map (fun t => ([t.a, t.x, pack t.p], t.pc, t.cycles, writes t)) =
      some ([0xFF, 0x80, 0x24], 0x8002, 13, [(0x0500, 0x80)]) := by decide

/-- TV-UN-18: SBC # alias $EB. -/
theorem test_TV_UN_18 :
    (stepped ({ ram [(0x8000, 0xEB), (0x8001, 0x03), (0xFFFD, 0x80)] with a := 0x05, p := unpack 0x25 })).map (fun t => ([t.a, pack t.p], t.pc, t.cycles, writes t)) =
      some ([0x02, 0x25], 0x8002, 9, []) := by decide

/-- TV-UN-20: NOP # $80 reads nothing. -/
theorem test_TV_UN_20 :
    (stepped (ram [(0x8000, 0x80), (0x8001, 0xFF), (0xFFFD, 0x80)])).map (fun t => ([pack t.p], t.pc, t.cycles, writes t)) =
      some ([0x24], 0x8002, 9, []) := by decide

/-- TV-UN-24: NOP abs,X $1C page cross. -/
theorem test_TV_UN_24 :
    (stepped ({ ram [(0x8000, 0x1C), (0x8001, 0xFF), (0x8002, 0x12), (0xFFFD, 0x80)] with x := 0x01 })).map (fun t => ([t.x, pack t.p], t.pc, t.cycles, writes t)) =
      some ([0x01, 0x24], 0x8003, 12, []) := by decide

/-- TV-INT-1: NMI serviced, Step executes no instruction. -/
theorem test_TV_INT_1 :
    (stepped ({ ram [(0x8000, 0xEA), (0xFFFB, 0x90), (0xFFFD, 0x80), (0xFFFF, 0xA0)] with p := unpack 0xA5, nmiPending := true })).map (fun t => (([t.sp, pack t.p], [t.nmiPending, t.nmiRunning]), t.pc, t.cycles, writes t)) =
      some (([0xFA, 0xA5], [false, true]), 0x9000, 14, [(0x01FD, 0x80), (0x01FC, 0x00), (0x01FB, 0xA5)]) := by decide

/-- TV-INT-2: IRQ held while I=1; NOP runs. -/
theorem test_TV_INT_2 :
    (stepped ({ ram [(0x8000, 0xEA), (0xFFFB, 0x90), (0xFFFD, 0x80), (0xFFFF, 0xA0)] with irqPending := true })).map (fun t => ([pack t.p], t.pc, t.cycles, writes t)) =
      some ([0x24], 0x8001, 9, []) := by decide

/-- TV-INT-3: IRQ serviced when I=0. -/
theorem test_TV_INT_3 :
    (stepped ({ ram [(0x8000, 0xEA), (0xFFFB, 0x90), (0xFFFD, 0x80), (0xFFFF, 0xA0)] with p := unpack 0x20, irqPending := true })).map (fun t => (([t.sp, pack t.p], [t.irqPending, t.irqRunning]), t.pc, t.cycles, writes t)) =
      some (([0xFA, 0x24], [false, true]), 0xA000, 14, [(0x01FD, 0x80), (0x01FC, 0x00), (0x01FB, 0x20)]) := by decide

/-- TV-INT-4: NMI and IRQ both pending: NMI wins, IRQ stays pending. -/
theorem test_TV_INT_4 :
    (stepped ({ ram [(0x8000, 0xEA), (0xFFFB, 0x90), (0xFFFD, 0x80), (0xFFFF, 0xA0)] with p := unpack 0x20, nmiPending := true, irqPending := true })).map (fun t => (([t.sp, pack t.p], [t.nmiPending, t.nmiRunning]), t.pc, t.cycles, writes t)) =
      some (([0xFA, 0x24], [false, true]), 0x9000, 14, [(0x01FD, 0x80), (0x01FC, 0x00), (0x01FB, 0x20)]) := by decide

/-- TV-INT-5: NMI during an IRQ handler (IrqRunning=1, I=1). -/
theorem test_TV_INT_5 :
    (stepped ({ ram [(0xA000, 0xEA), (0xFFFB, 0x90), (0xFFFD, 0xA0), (0xFFFF, 0xA0)] with sp := 0xFA, nmiPending := true, irqRunning := true })).map (fun t => (([t.sp, pack t.p], [t.nmiPending, t.nmiRunning]), t.pc, t.cycles, writes t)) =
      some (([0xF7, 0x24], [false, true]), 0x9000, 14, [(0x01FA, 0xA0), (0x01F9, 0x00), (0x01F8, 0x24)]) := by decide

/-- TV-INT-6: Vectoring with SP=$01 wraps. -/
theorem test_TV_INT_6 :
    (stepped ({ ram [(0x8000, 0xEA), (0xFFFB, 0x90), (0xFFFD, 0x80), (0xFFFF, 0xA0)] with sp := 0x01, p := unpack 0x20, irqPending := true })).map (fun t => (([t.sp, pack t.p], [t.irqPending, t.irqRunning]), t.pc, t.cycles, writes t)) =
      some (([0xFE, 0x24], [false, true]), 0xA000, 14, [(0x0101, 0x80), (0x0100, 0x00), (0x01FF, 0x20)]) := by decide

/-- TV-INT-7: Vector is the cached one, not current memory. -/
theorem test_TV_INT_7 :
    (stepped (memoryChange 0xFFFB 0xB0 (memoryChange 0xFFFA 0x00 ({ ram [(0x8000, 0xEA), (0xFFFB, 0x90), (0xFFFD, 0x80), (0xFFFF, 0xA0)] with nmiPending := true })))).map (fun t => (([t.sp, pack t.p], [t.nmiPending, t.nmiRunning]), t.pc, t.cycles, writes t)) =
      some (([0xFA, 0x24], [false, true]), 0x9000, 14, [(0x01FD, 0x80), (0x01FC, 0x00), (0x01FB, 0x24)]) := by decide

/-- TV-INT-8: Interrupt is taken before an illegal opcode at PC. -/
theorem test_TV_INT_8 :
    (stepped ({ ram [(0x8000, 0x02), (0xFFFB, 0x90), (0xFFFD, 0x80), (0xFFFF, 0xA0)] with p := unpack 0x20, irqPending := true })).map (fun t => (([t.sp, pack t.p], [t.irqPending, t.irqRunning]), t.pc, t.cycles, writes t)) =
      some (([0xFA, 0x24], [false, true]), 0xA000, 14, [(0x01FD, 0x80), (0x01FC, 0x00), (0x01FB, 0x20)]) := by decide

/-- TV-ILL-1: illegal byte $02. -/
theorem test_TV_ILL_1 :
    (stepped ({ ram [(0x8000, 0x02), (0xFFFD, 0x80)] with a := 0x11 })).map (fun t => ([t.a, pack t.p], t.pc, t.cycles, t.fault)) =
      some ([0x11, 0x24], 0x8000, 7, some (.illegalOpcode 0x8000 0x02)) := by decide

/-- TV-ILL-2: illegal byte $AB. -/
theorem test_TV_ILL_2 :
    (stepped ({ ram [(0x8000, 0xAB), (0xFFFD, 0x80)] with a := 0x11 })).map (fun t => ([t.a, pack t.p], t.pc, t.cycles, t.fault)) =
      some ([0x11, 0x24], 0x8000, 7, some (.illegalOpcode 0x8000 0xAB)) := by decide

/-- TV-ILL-3: illegal byte $9C. -/
theorem test_TV_ILL_3 :
    (stepped ({ ram [(0x8000, 0x9C), (0xFFFD, 0x80)] with a := 0x11 })).map (fun t => ([t.a, pack t.p], t.pc, t.cycles, t.fault)) =
      some ([0x11, 0x24], 0x8000, 7, some (.illegalOpcode 0x8000 0x9C)) := by decide

/-! ### withFetchWord -/

/-- The word is fetched as the first instruction after reset: LDA #$42 as bits $42A9. -/
theorem test_withFetchWord :
    (stepped (State.reset.withFetchWord 16 0x42A9)).map (fun t => (t.a, t.pc, t.cycles)) = some (0x42, 0x0002, 9) := by
  decide

/-- An operand above the row's bits is zero: ROR abs in 8 bits rotates the byte at $0000. -/
theorem test_withFetchWord_short :
    (stepped (State.reset.withFetchWord 8 0x6E)).map (fun t => (writes t, t.pc)) = some ([(0x0000, 0x37)], 0x0003) := by
  decide

/-- R374: Reset leaves memory alone and clears a recorded fault. -/
theorem test_reset_after_fault :
    (stepped (ram [(0x8000, 0x02), (0xFFFD, 0x80)])).map (fun t => ((hostReset t).fault, (hostReset t).mem == t.mem)) =
      some (none, true) := by decide

/-- R341: the stall budget, and a call that may not be made. -/
theorem test_stall :
    ((consumeStall 2 (addStall 3 (ram []))).map (fun s => s.stallCycles), consumeStall 4 (addStall 3 (ram []))) =
      (some 1, none) := by decide

/-! ### A witness for the hypotheses of every statement that has any -/

/-- A state to meet hypotheses in: a pointer to $9081 at $10, another that wraps at $FF, vectors $A000, $8000 and $C000. -/
def sample : State :=
  ram [(0x0010, 0x81), (0x0011, 0x90), (0x00FF, 0x10), (0x9081, 0x05), (0xFFFB, 0xA0), (0xFFFD, 0x80), (0xFFFF, 0xC0)]

/-- `sample` with the parameter `SourceHeuristic`. -/
def sampleHeuristic : State := { sample with params := { sample.params with pcUpdate := .sourceHeuristic } }

/-- `sample` under the host oracle. -/
def sampleOracle : State := { sample with params := { sample.params with memory := .hostOracle } }

/-- `sample` with a byte at PC. -/
def sampleWith (b : Byte) : State := { sample with mem := sample.mem.store 0x8000 b }

/-- Whether the first hypothesis of a reading statement can be met. -/
def readsData (i : Instr) (s : State) : Bool := (dataRead i.form s).isSome

/-- Whether the first hypothesis of a storing statement can be met. -/
def hasStoreAddress (i : Instr) (s : State) : Bool := (storeAddress i.form s).isSome

/-- Whether an instruction answers a next state of which `f` holds. -/
def answers (i : Instr) (s : State) (f : State → Bool) : Bool :=
  match exec i s with
  | .next t => f t
  | .fault _ => false
  | .refused _ => false

/-- Whether a Step answers a next state of which `f` holds. -/
def steps (s : State) (f : State → Bool) : Bool :=
  match step s with
  | .next t => f t
  | .fault _ => false
  | .refused _ => false

/-- The branches and whether each is taken, as the statements list them. -/
def branchesAt (s : State) (off : Byte) : List (Instr × Bool) :=
  [(Instr.bcc off, !s.p.c), (Instr.bcs off, s.p.c), (Instr.beq off, s.p.z), (Instr.bmi off, s.p.n),
    (Instr.bne off, !s.p.z), (Instr.bpl off, !s.p.n), (Instr.bvc off, !s.p.v), (Instr.bvs off, s.p.v)]

/-- Both clauses. -/
theorem witness_EncodeOfDecodeIsTheBytes :
    (decode [0xA9, 0x42, 0xEA] = .ok (.ldaImm 0x42, [0xEA]) ∧ Instr.ldaImm 0x42 ≠ .brk) ∧
    decode [0x00, 0xFF] = .ok (.brk, []) := ⟨⟨rfl, by decide⟩, rfl⟩

/-- An instruction of three bytes, and BRK. -/
theorem witness_LengthIsAFunctionOfTheOpcode :
    (opcodeTable 0xBD = some ⟨.lda, .absx, 3, 4, true, false⟩ ∧ decode [0xBD, 0x34, 0x12] = .ok (.ldaAbsx 0x1234, [])) ∧
    (opcodeTable 0x00 = some ⟨.brk, .imp, 2, 7, false, false⟩ ∧ decode [0x00, 0x34] = .ok (.brk, [])) := ⟨⟨rfl, rfl⟩, rfl, rfl⟩

/-- Both sides at the first and the last byte of the list, and neither side at a mapped one. -/
theorem witness_UnmappedBytesAreIllegal :
    (reads [0x02] = some (.illegal02, []) ∧ Instr.illegal02.mnemonic = none ∧ 0x02 ∈ unmappedBytes) ∧
    (reads [0xBB] = some (.illegalBB, []) ∧ Instr.illegalBB.mnemonic = none ∧ 0xBB ∈ unmappedBytes) ∧
    Instr.brk.mnemonic = some .brk ∧ 0x00 ∉ unmappedBytes := by decide

/-- Plain memory. -/
theorem witness_StepRunsTheDecodedInstruction :
    sample.fault = none ∧ serviceable sample = false ∧
    reads [sample.byteAt sample.pc, sample.byteAt (sample.pc + 1), sample.byteAt (sample.pc + 2)] = some (.brk, [0x00]) := by decide

/-- Three bytes always hold a whole instruction. -/
theorem decodes_three (a b c : Byte) : ∃ i rest, decode [a, b, c] = .ok (i, rest) := by
  cases h : decodeOpcode a with
  | bare i => cases g : hasSignature a <;> simp [decode, h, g]
  | byte f => simp [decode, h]
  | word f => simp [decode, h]

/-- The host oracle: whatever three bytes it answers, they decode. -/
theorem witness_StepRunsTheDecodedInstruction_oracle :
    sampleOracle.fault = none ∧ serviceable sampleOracle = false ∧
    ∃ i rest, decode [Config.portDraw 0, Config.portDraw 1, Config.portDraw 2] = .ok (i, rest) :=
  ⟨by decide, by decide, decodes_three _ _ _⟩

/-- Each clause. -/
theorem witness_LoadResult :
    readsData (Instr.ldaIndy 0x10) sample = true ∧ (Instr.ldaIndy 0x10).opcode ∈ ([0xA1, 0xA5, 0xA9, 0xAD, 0xB1, 0xB5, 0xB9, 0xBD] : List Byte) ∧
    readsData (Instr.ldxImm 0x00) sample = true ∧ (Instr.ldxImm 0x00).opcode ∈ ([0xA2, 0xA6, 0xAE, 0xB6, 0xBE] : List Byte) ∧
    readsData (Instr.ldyAbsx 0xFFFF) sample = true ∧ (Instr.ldyAbsx 0xFFFF).opcode ∈ ([0xA0, 0xA4, 0xAC, 0xB4, 0xBC] : List Byte) ∧
    readsData (Instr.laxZpy 0xFF) sample = true ∧ (Instr.laxZpy 0xFF).opcode ∈ ([0xA3, 0xA7, 0xAF, 0xB3, 0xB7, 0xBF] : List Byte) := by decide

/-- Each clause. -/
theorem witness_StoreResult :
    hasStoreAddress (Instr.staIndx 0xFF) sample = true ∧ (Instr.staIndx 0xFF).opcode ∈ ([0x81, 0x85, 0x8D, 0x91, 0x95, 0x99, 0x9D] : List Byte) ∧
    hasStoreAddress (Instr.stxZpy 0xFF) sample = true ∧ (Instr.stxZpy 0xFF).opcode ∈ ([0x86, 0x8E, 0x96] : List Byte) ∧
    hasStoreAddress (Instr.styAbs 0xFFFF) sample = true ∧ (Instr.styAbs 0xFFFF).opcode ∈ ([0x84, 0x8C, 0x94] : List Byte) ∧
    hasStoreAddress (Instr.saxZp 0x00) sample = true ∧ (Instr.saxZp 0x00).opcode ∈ ([0x83, 0x87, 0x8F, 0x97] : List Byte) := by decide

/-- Each clause. -/
theorem witness_TransferResult :
    (Instr.tax).opcode = 0xAA ∧
    (Instr.tay).opcode = 0xA8 ∧
    (Instr.txa).opcode = 0x8A ∧
    (Instr.tya).opcode = 0x98 ∧
    (Instr.tsx).opcode = 0xBA ∧
    (Instr.txs).opcode = 0x9A := by decide

/-- An immediate and a memory operand. -/
theorem witness_AdcResult :
    readsData (Instr.adcImm 0xFF) sample = true ∧ (Instr.adcImm 0xFF).opcode ∈ ([0x61, 0x65, 0x69, 0x6D, 0x71, 0x75, 0x79, 0x7D] : List Byte) ∧
    readsData (Instr.adcIndy 0x10) sample = true ∧ (Instr.adcIndy 0x10).opcode ∈ ([0x61, 0x65, 0x69, 0x6D, 0x71, 0x75, 0x79, 0x7D] : List Byte) := by decide

/-- The official and the alias opcode. -/
theorem witness_SbcResult :
    readsData (Instr.sbcImm 0x00) sample = true ∧ (Instr.sbcImm 0x00).opcode ∈ ([0xE1, 0xE5, 0xE9, 0xEB, 0xED, 0xF1, 0xF5, 0xF9, 0xFD] : List Byte) ∧
    readsData (Instr.sbcImmEB 0xFF) sample = true ∧ (Instr.sbcImmEB 0xFF).opcode ∈ ([0xE1, 0xE5, 0xE9, 0xEB, 0xED, 0xF1, 0xF5, 0xF9, 0xFD] : List Byte) := by decide

/-- Both clauses, at the ends of the signed range. -/
theorem witness_OverflowFlagIsSignedOverflow :
    answers (.adcImm 0x80) { sample with a := 0x80 } (fun t => t.p.v) = true ∧
    answers (.sbcImm 0x7F) { sample with a := 0x80 } (fun t => t.p.v) = true ∧
    answers (.adcImm 0x7F) { sample with a := 0x80 } (fun t => !t.p.v) = true := by decide

/-- Each clause. -/
theorem witness_LogicResult :
    readsData (Instr.andImm 0x0F) sample = true ∧ (Instr.andImm 0x0F).opcode ∈ ([0x21, 0x25, 0x29, 0x2D, 0x31, 0x35, 0x39, 0x3D] : List Byte) ∧
    readsData (Instr.oraZp 0x10) sample = true ∧ (Instr.oraZp 0x10).opcode ∈ ([0x01, 0x05, 0x09, 0x0D, 0x11, 0x15, 0x19, 0x1D] : List Byte) ∧
    readsData (Instr.eorIndy 0xFF) sample = true ∧ (Instr.eorIndy 0xFF).opcode ∈ ([0x41, 0x45, 0x49, 0x4D, 0x51, 0x55, 0x59, 0x5D] : List Byte) := by decide

/-- Both opcodes. -/
theorem witness_BitResult :
    readsData (Instr.bitZp 0x10) sample = true ∧ (Instr.bitZp 0x10).opcode ∈ ([0x24, 0x2C] : List Byte) ∧
    readsData (Instr.bitAbs 0xFFFF) sample = true ∧ (Instr.bitAbs 0xFFFF).opcode ∈ ([0x24, 0x2C] : List Byte) := by decide

/-- Each clause. -/
theorem witness_CompareResult :
    readsData (Instr.cmpImm 0x00) sample = true ∧ (Instr.cmpImm 0x00).opcode ∈ ([0xC1, 0xC5, 0xC9, 0xCD, 0xD1, 0xD5, 0xD9, 0xDD] : List Byte) ∧
    readsData (Instr.cpxZp 0xFF) sample = true ∧ (Instr.cpxZp 0xFF).opcode ∈ ([0xE0, 0xE4, 0xEC] : List Byte) ∧
    readsData (Instr.cpyAbs 0x9081) sample = true ∧ (Instr.cpyAbs 0x9081).opcode ∈ ([0xC0, 0xC4, 0xCC] : List Byte) := by decide

/-- Each clause. -/
theorem witness_IncrementDecrementMemoryResult :
    hasStoreAddress (Instr.incAbsx 0xFFFF) sample = true ∧ (Instr.incAbsx 0xFFFF).opcode ∈ ([0xE6, 0xEE, 0xF6, 0xFE] : List Byte) ∧
    hasStoreAddress (Instr.decZp 0x00) sample = true ∧ (Instr.decZp 0x00).opcode ∈ ([0xC6, 0xCE, 0xD6, 0xDE] : List Byte) := by decide

/-- Each clause. -/
theorem witness_IncrementDecrementRegisterResult :
    (Instr.inx).opcode = 0xE8 ∧
    (Instr.iny).opcode = 0xC8 ∧
    (Instr.dex).opcode = 0xCA ∧
    (Instr.dey).opcode = 0x88 := by decide

/-- Each clause. -/
theorem witness_ShiftAccumulatorResult :
    (Instr.aslAcc).opcode = 0x0A ∧
    (Instr.lsrAcc).opcode = 0x4A ∧
    (Instr.rolAcc).opcode = 0x2A ∧
    (Instr.rorAcc).opcode = 0x6A := by decide

/-- Each clause. -/
theorem witness_ShiftMemoryResult :
    hasStoreAddress (Instr.aslZp 0x10) sample = true ∧ (Instr.aslZp 0x10).opcode ∈ ([0x06, 0x0E, 0x16, 0x1E] : List Byte) ∧
    hasStoreAddress (Instr.lsrZpx 0xFF) sample = true ∧ (Instr.lsrZpx 0xFF).opcode ∈ ([0x46, 0x4E, 0x56, 0x5E] : List Byte) ∧
    hasStoreAddress (Instr.rolAbs 0x9081) sample = true ∧ (Instr.rolAbs 0x9081).opcode ∈ ([0x26, 0x2E, 0x36, 0x3E] : List Byte) ∧
    hasStoreAddress (Instr.rorAbsx 0xFFFF) sample = true ∧ (Instr.rorAbsx 0xFFFF).opcode ∈ ([0x66, 0x6E, 0x76, 0x7E] : List Byte) := by decide

/-- Not taken; taken to itself, and at both ends of the offset; taken under SourceHeuristic. -/
theorem witness_BranchResult :
    (sample.p.c = false ∧ (Instr.bcs 0x10, sample.p.c) ∈ branchesAt sample 0x10) ∧
    ((Instr.bcc 0xFE, !sample.p.c) ∈ branchesAt sample 0xFE ∧ (!sample.p.c) = true ∧ sample.params.pcUpdate = .architectural) ∧
    ((Instr.bne 0x80, !sample.p.z) ∈ branchesAt sample 0x80 ∧ (!sample.p.z) = true ∧ page (sample.pc + 2) ≠ page (sample.pc + 2 + BitVec.signExtend 16 (0x80 : Byte))) ∧
    ((Instr.bvc 0x7F, !sample.p.v) ∈ branchesAt sample 0x7F ∧ (!sample.p.v) = true ∧ page (sample.pc + 2) = page (sample.pc + 2 + BitVec.signExtend 16 (0x7F : Byte))) ∧
    ((Instr.bpl 0x00, !sampleHeuristic.p.n) ∈ branchesAt sampleHeuristic 0x00 ∧ (!sampleHeuristic.p.n) = true ∧
      sampleHeuristic.pc + 2 + BitVec.signExtend 16 (0x00 : Byte) ≠ sampleHeuristic.pc) := by decide

/-- Each clause: a branch of offset $FE, RTS, RTI, BRK and JMP (abs) to their own address, and two modes that agree. -/
theorem witness_SelfTransferUnderSourceHeuristic :
    sampleHeuristic.params.pcUpdate = .sourceHeuristic ∧
    ((Instr.bcc 0xFE, !sampleHeuristic.p.c) ∈ branchesAt sampleHeuristic 0xFE ∧ (!sampleHeuristic.p.c) = true ∧
      sampleHeuristic.pc + 2 + BitVec.signExtend 16 (0xFE : Byte) = sampleHeuristic.pc) ∧
    (pop16 { sampleHeuristic with pc := 0x0001 }).1 + 1 = 0x0001 ∧
    (pop16 (pop { sampleHeuristic with pc := 0x0000 }).2).1 = 0x0000 ∧
    ({ sampleHeuristic with pc := 0xC000 } : State).irqAddress = 0xC000 ∧
    (readWordBug 0x0010 { sampleHeuristic with pc := 0x9081 }).1 = 0x9081 ∧
    answers .inx sampleHeuristic (fun _ => true) = true ∧
    answers .inx { sampleHeuristic with params := { sampleHeuristic.params with pcUpdate := .architectural } }
      (fun u => u.pc != sampleHeuristic.pc) = true := by decide

/-- Both clauses. -/
theorem witness_JumpResult :
    ((Instr.jmpAbs 0x8000).opcode = 0x4C ∧ (Instr.jmpAbs 0x8000).form = .mem (.abs 0x8000)) ∧
    ((Instr.jmpInd 0x12FF).opcode = 0x6C ∧ (Instr.jmpInd 0x12FF).form = .ind 0x12FF) := by decide

/-- Both clauses. -/
theorem witness_SubroutineResult :
    ((Instr.jsr 0x9000).opcode = 0x20 ∧ (Instr.jsr 0x9000).form = .mem (.abs 0x9000)) ∧ Instr.rts.opcode = 0x60 := by decide

/-- At SP = $00, where the pushes wrap. -/
theorem witness_SubroutineReturns :
    sample.params.memory = .plainRam ∧ sample.params.pcUpdate = .architectural ∧
    answers (.jsr 0x9000) { sample with sp := 0x00 } (fun t => t.sp == 0xFE && answers .rts t (fun _ => true)) = true := by decide

/-- Each clause. -/
theorem witness_StackInstructionResult :
    Instr.pha.opcode = 0x48 ∧ Instr.php.opcode = 0x08 ∧ Instr.pla.opcode = 0x68 ∧ Instr.plp.opcode = 0x28 := by decide

/-- Each clause. -/
theorem witness_FlagInstructionResult :
    (Instr.clc).opcode = 0x18 ∧
    (Instr.cld).opcode = 0xD8 ∧
    (Instr.cli).opcode = 0x58 ∧
    (Instr.clv).opcode = 0xB8 ∧
    (Instr.sec).opcode = 0x38 ∧
    (Instr.sed).opcode = 0xF8 ∧
    (Instr.sei).opcode = 0x78 := by decide

/-- The official opcode and one of each unofficial mode. -/
theorem witness_NopResult :
    (Instr.nop).opcode ∈ ([0x04, 0x0C, 0x14, 0x1A, 0x1C, 0x34, 0x3A, 0x3C, 0x44, 0x54, 0x5A, 0x5C, 0x64, 0x74, 0x7A, 0x7C, 0x80, 0x82, 0x89, 0xC2, 0xD4, 0xDA, 0xDC, 0xE2, 0xEA, 0xF4, 0xFA, 0xFC] : List Byte) ∧
    (Instr.nopImp1A).opcode ∈ ([0x04, 0x0C, 0x14, 0x1A, 0x1C, 0x34, 0x3A, 0x3C, 0x44, 0x54, 0x5A, 0x5C, 0x64, 0x74, 0x7A, 0x7C, 0x80, 0x82, 0x89, 0xC2, 0xD4, 0xDA, 0xDC, 0xE2, 0xEA, 0xF4, 0xFA, 0xFC] : List Byte) ∧
    (Instr.nopImmE2 0x00).opcode ∈ ([0x04, 0x0C, 0x14, 0x1A, 0x1C, 0x34, 0x3A, 0x3C, 0x44, 0x54, 0x5A, 0x5C, 0x64, 0x74, 0x7A, 0x7C, 0x80, 0x82, 0x89, 0xC2, 0xD4, 0xDA, 0xDC, 0xE2, 0xEA, 0xF4, 0xFA, 0xFC] : List Byte) ∧
    (Instr.nopZp04 0xFF).opcode ∈ ([0x04, 0x0C, 0x14, 0x1A, 0x1C, 0x34, 0x3A, 0x3C, 0x44, 0x54, 0x5A, 0x5C, 0x64, 0x74, 0x7A, 0x7C, 0x80, 0x82, 0x89, 0xC2, 0xD4, 0xDA, 0xDC, 0xE2, 0xEA, 0xF4, 0xFA, 0xFC] : List Byte) ∧
    (Instr.nopZpxF4 0xFF).opcode ∈ ([0x04, 0x0C, 0x14, 0x1A, 0x1C, 0x34, 0x3A, 0x3C, 0x44, 0x54, 0x5A, 0x5C, 0x64, 0x74, 0x7A, 0x7C, 0x80, 0x82, 0x89, 0xC2, 0xD4, 0xDA, 0xDC, 0xE2, 0xEA, 0xF4, 0xFA, 0xFC] : List Byte) ∧
    (Instr.nopAbs0C 0xFFFF).opcode ∈ ([0x04, 0x0C, 0x14, 0x1A, 0x1C, 0x34, 0x3A, 0x3C, 0x44, 0x54, 0x5A, 0x5C, 0x64, 0x74, 0x7A, 0x7C, 0x80, 0x82, 0x89, 0xC2, 0xD4, 0xDA, 0xDC, 0xE2, 0xEA, 0xF4, 0xFA, 0xFC] : List Byte) ∧
    (Instr.nopAbsxFC 0xFFFF).opcode ∈ ([0x04, 0x0C, 0x14, 0x1A, 0x1C, 0x34, 0x3A, 0x3C, 0x44, 0x54, 0x5A, 0x5C, 0x64, 0x74, 0x7A, 0x7C, 0x80, 0x82, 0x89, 0xC2, 0xD4, 0xDA, 0xDC, 0xE2, 0xEA, 0xF4, 0xFA, 0xFC] : List Byte) := by decide

/-- The opcode. -/
theorem witness_BrkResult :
    Instr.brk.opcode = 0x00 := by decide

/-- The opcode. -/
theorem witness_RtiResult :
    Instr.rti.opcode = 0x40 := by decide

/-- At SP = $01, where the pushes wrap. -/
theorem witness_BrkThenRtiResumes :
    sample.params.memory = .plainRam ∧ sample.params.pcUpdate = .architectural ∧
    (sample.mem.wf = true ∧ sample.p.b = false ∧ sample.p.u = true) ∧
    answers .brk { sample with sp := 0x01 } (fun t => t.sp == 0xFE && answers .rti t (fun _ => true)) = true := by decide

/-- Each clause. -/
theorem witness_ComposedLogicResult :
    hasStoreAddress (Instr.sloIndy 0xFF) sample = true ∧ (Instr.sloIndy 0xFF).opcode ∈ ([0x03, 0x07, 0x0F, 0x13, 0x17, 0x1B, 0x1F] : List Byte) ∧
    hasStoreAddress (Instr.rlaAbsx 0xFFFF) sample = true ∧ (Instr.rlaAbsx 0xFFFF).opcode ∈ ([0x23, 0x27, 0x2F, 0x33, 0x37, 0x3B, 0x3F] : List Byte) ∧
    hasStoreAddress (Instr.sreZp 0x10) sample = true ∧ (Instr.sreZp 0x10).opcode ∈ ([0x43, 0x47, 0x4F, 0x53, 0x57, 0x5B, 0x5F] : List Byte) := by decide

/-- Each clause. -/
theorem witness_ComposedArithmeticResult :
    hasStoreAddress (Instr.rraIndx 0x10) sample = true ∧ (Instr.rraIndx 0x10).opcode ∈ ([0x63, 0x67, 0x6F, 0x73, 0x77, 0x7B, 0x7F] : List Byte) ∧
    hasStoreAddress (Instr.dcpAbsy 0x9081) sample = true ∧ (Instr.dcpAbsy 0x9081).opcode ∈ ([0xC3, 0xC7, 0xCF, 0xD3, 0xD7, 0xDB, 0xDF] : List Byte) ∧
    hasStoreAddress (Instr.iscZpx 0xFF) sample = true ∧ (Instr.iscZpx 0xFF).opcode ∈ ([0xE3, 0xE7, 0xEF, 0xF3, 0xF7, 0xFB, 0xFF] : List Byte) := by decide

/-- The first and the last byte of the list. -/
theorem witness_IllegalOpcodeResult :
    Instr.illegal02.opcode ∈ unmappedBytes ∧ Instr.illegalBB.opcode ∈ unmappedBytes := by decide

/-- An instruction outside each list, and a shift of memory. -/
theorem witness_RegisterFrame :
    ((Instr.ldxImm 0x01).mnemonic = some .ldx ∧ answers (.ldxImm 0x01) sample (fun _ => true) = true) ∧
    ((Instr.rolZp 0x10).mnemonic = some .rol ∧ (Instr.rolZp 0x10).form ≠ .acc ∧ answers (.rolZp 0x10) sample (fun _ => true) = true) ∧
    ((Instr.ldaImm 0x01).mnemonic = some .lda ∧ answers (.ldaImm 0x01) sample (fun _ => true) = true) := by decide

/-- An instruction outside each list. -/
theorem witness_FlagFrame :
    Instr.txs.mnemonic = some .txs ∧ answers .txs sample (fun _ => true) = true := by decide

/-- An instruction, and an unmapped byte. -/
theorem witness_ControllerFrame :
    (answers .sei sample (fun _ => true) = true ∧ Instr.sei.opcode ≠ 0x40 ∧ Instr.sei.opcode ∉ unmappedBytes) ∧
    (answers .illegal02 sample (fun _ => true) = true ∧ Instr.illegal02.opcode ≠ 0x40) := by decide

/-- A load, an accumulator shift and an unmapped byte. -/
theorem witness_MemoryFrameOfFormsThatStoreNothing :
    (answers (.ldaIndy 0x10) sample (fun _ => true) = true ∧ (Instr.ldaIndy 0x10).mnemonic = some .lda) ∧
    (answers .rorAcc sample (fun _ => true) = true ∧ Instr.rorAcc.mnemonic = some .ror ∧ Instr.rorAcc.form = .acc) ∧
    (answers .illegal02 sample (fun _ => true) = true ∧ Instr.illegal02.mnemonic = none) := by decide

/-- A store and a composed instruction, with another address. -/
theorem witness_MemoryFrameOfStores :
    ((Instr.staIndy 0x10).mnemonic = some .sta ∧ answers (.staIndy 0x10) sample (fun _ => true) = true ∧
      storeAddress (Instr.staIndy 0x10).form sample = some 0x9081 ∧ (0x9080 : Word) ≠ 0x9081) ∧
    ((Instr.dcpAbs 0xFFFF).mnemonic = some .dcp ∧ answers (.dcpAbs 0xFFFF) sample (fun _ => true) = true ∧
      storeAddress (Instr.dcpAbs 0xFFFF).form sample = some 0xFFFF ∧ (0x0000 : Word) ≠ 0xFFFF) := by decide

/-- Each clause at SP = $00, with the address beside the stack page. -/
theorem witness_MemoryFrameOfPushes :
    (answers .pha { sample with sp := 0x00 } (fun _ => true) = true ∧ (0x0200 : Word) ≠ stackAddr 0x00) ∧
    (answers (.jsr 0x9000) { sample with sp := 0x00 } (fun _ => true) = true ∧ (0x00FF : Word) ≠ stackAddr 0x00 ∧ (0x00FF : Word) ≠ stackAddr (0x00 - 1)) ∧
    (answers .brk { sample with sp := 0x00 } (fun _ => true) = true ∧ (0x01FD : Word) ≠ stackAddr 0x00 ∧ (0x01FD : Word) ≠ stackAddr (0x00 - 1) ∧
      (0x01FD : Word) ≠ stackAddr (0x00 - 2)) ∧
    (0x00FF : Word).toNat < 0x0100 ∧ 0x01FF < (0x0200 : Word).toNat := by decide

/-- With I set, an IRQ pending too, and an unmapped byte at PC. -/
theorem witness_NmiIsServiced :
    let s := triggerIrq (triggerNmi (sampleWith 0x02))
    s.fault = none ∧ s.nmiPending = true ∧ s.params.fusedInterruptStep = false ∧ steps s (fun _ => true) = true := by decide

/-- With I clear. -/
theorem witness_IrqIsServiced :
    let s := triggerIrq { sample with p := unpack 0x20 }
    s.fault = none ∧ s.nmiPending = false ∧ s.irqPending = true ∧ s.p.i = false ∧
      s.params.fusedInterruptStep = false ∧ steps s (fun _ => true) = true := by decide

/-- With I set, as after reset, and with CLI as the instruction. -/
theorem witness_IrqIsHeldWhileMasked :
    sample.fault = none ∧ sample.nmiPending = false ∧ sample.p.i = true ∧
    steps { sampleWith 0x58 with irqPending := false } (fun _ => true) = true := by decide

/-- An NMI, and an IRQ. -/
theorem witness_FusedStepGoesOnAtTheVector :
    let s := triggerNmi { sample with params := { sample.params with fusedInterruptStep := true } }
    let r := triggerIrq { sample with p := unpack 0x20, params := { sample.params with fusedInterruptStep := true } }
    (s.fault = none ∧ serviceable s = true ∧ s.params.fusedInterruptStep = true ∧
      steps { s with params := { s.params with fusedInterruptStep := false } } (fun _ => true) = true) ∧
    (r.fault = none ∧ serviceable r = true ∧ r.params.fusedInterruptStep = true ∧
      steps { r with params := { r.params with fusedInterruptStep := false } } (fun _ => true) = true) := by decide

/-- A faulted state, and one that is not. -/
theorem witness_StepStopsOnlyOnceFaulted :
    (let s := { sample with fault := some (.illegalOpcode 0x8000 0x02) };
      s.fault = some (.illegalOpcode 0x8000 0x02)) ∧ sample.fault = none := by decide

/-- An NMI at SP = $01, where the pushes wrap, and an IRQ. -/
theorem witness_InterruptThenRtiResumes :
    let s := triggerNmi { sample with sp := 0x01 }
    let r := triggerIrq { sample with p := unpack 0x20 }
    ((s.mem.wf = true ∧ s.p.b = false ∧ s.p.u = true) ∧ s.fault = none ∧ serviceable s = true ∧
      s.params.memory = .plainRam ∧ s.params.pcUpdate = .architectural ∧ s.params.fusedInterruptStep = false ∧
      steps s (fun t => answers .rti t (fun _ => true)) = true) ∧
    ((r.mem.wf = true ∧ r.p.b = false ∧ r.p.u = true) ∧ r.fault = none ∧ serviceable r = true ∧
      r.params.memory = .plainRam ∧ r.params.pcUpdate = .architectural ∧ r.params.fusedInterruptStep = false ∧
      steps r (fun t => answers .rti t (fun _ => true)) = true) := by decide

/-- Plain memory; and each clause at the end of its range: the pages wrap, the pointer at $FF, the cross at 256. -/
theorem witness_EffectiveAddresses :
    sample.params.memory = .plainRam ∧
    (resolveMem (.zp 0xFF) sample).operand = 0x00FF ∧
    (resolveMem (.zpx 0xFF) { sample with x := 0x01 }).operand = 0x0000 ∧
    (resolveMem (.zpy 0xFF) { sample with y := 0xFF }).operand = 0x00FE ∧
    (resolveMem (.abs 0xFFFF) sample).operand = 0xFFFF ∧
    (resolveMem (.absx 0xFFFF) { sample with x := 0x01 }).operand = 0x0000 ∧
    (resolveMem (.absx 0x12FF) { sample with x := 0x01 }).cross = true ∧
    (resolveMem (.absy 0x1200) { sample with y := 0xFF }).cross = false ∧
    (resolveMem (.indx 0xFF) { sample with x := 0x11 }).operand = 0x9081 ∧
    (resolveMem (.indy 0xFF) sample).operand = 0x0010 ∧
    (resolveMem (.indy 0x10) { sample with y := 0x7F }).cross = true := by decide

/-- Each kind of memory. -/
theorem witness_PortReadsTheLatestWrite :
    sample.params.memory = .plainRam ∧ sampleOracle.params.memory = .hostOracle := by decide

/-- Each clause. -/
theorem witness_ReadWordBugStaysInThePage :
    sample.params.memory = .plainRam ∧ lo 0x12FE ≠ 0xFF ∧ lo 0x12FF = 0xFF := by decide

/-- Plain memory, 256 bytes, and the addresses beside the stack page. -/
theorem witness_StackWrapsAndRoundTrips :
    sample.params.memory = .plainRam ∧ (List.replicate 256 (0x00 : Byte)).length = 256 ∧
    (0x00FF : Word).toNat < 0x0100 ∧ 0x01FF < (0x0200 : Word).toNat := ⟨rfl, List.length_replicate, by decide, by decide⟩

/-- A state of the invariant that steps. -/
theorem witness_StepKeepsTheInvariant :
    (sample.mem.wf = true ∧ sample.p.b = false ∧ sample.p.u = true) ∧ steps sample (fun _ => true) = true := by decide

/-- A run with a Step and host actions. -/
theorem witness_EveryRunKeepsTheInvariant :
    (sample.mem.wf = true ∧ sample.p.b = false ∧ sample.p.u = true) ∧
    (happenAll [.host .triggerNmi, .step, .host (.stallCycles 2), .host (.consumeStall 2), .host (.memoryChange 0x10 0x00),
      .host .snapshot, .host .triggerIrq, .host .reset] sample).isSome = true := by decide

/-- Each kind of memory. -/
theorem witness_ResetResult :
    sample.params.memory = .plainRam ∧ sampleOracle.params.memory = .hostOracle := by decide

/-- A budget that suffices exactly, and one that is short by one. -/
theorem witness_HostCallsResult :
    (2 : Count) ≤ ({ sample with stallCycles := 2 } : State).stallCycles ∧
    ¬ (3 : Count) ≤ ({ sample with stallCycles := 2 } : State).stallCycles := by decide

/-- A Step that stores to a vector, and one that services an interrupt. -/
theorem witness_StepChangesNoFixedState :
    steps sample (fun _ => true) = true ∧
    steps (ram [(0x8000, 0x8D), (0x8001, 0xFE), (0x8002, 0xFF), (0xFFFD, 0x80)]) (fun _ => true) = true ∧
    steps (triggerNmi sample) (fun _ => true) = true := by decide

/-- A Step that goes on, and one that records a fault. -/
theorem witness_StepCyclesAdvance :
    sample.params.fusedInterruptStep = false ∧ steps sample (fun t => t.fault.isNone) = true ∧
    steps (sampleWith 0x02) (fun t => t.fault.isSome) = true := by decide

/-- ADC. -/
theorem witness_DecimalFlagIsReadByNothing :
    (Instr.adcImm 0x09).opcode ∉ ([0x08, 0x00, 0xD8, 0xF8, 0x28, 0x40] : List Byte) ∧
    answers (.adcImm 0x09) sample (fun _ => true) = true := by decide

/-- R382: memory that holds JMP $8000 at $8000, with the three vectors at it. -/
def idleMemory : Memory :=
  [(0x8000, 0x4C), (0x8002, 0x80), (0xFFFB, 0x80), (0xFFFD, 0x80), (0xFFFF, 0x80)]

/-- The states a host's triggers can make of the start state of `idleMemory`. -/
def idleWith (nmi irq : Bool) : State := { ram idleMemory with nmiPending := nmi, irqPending := irq }

/-- A host that triggers interrupts and takes snapshots. -/
def triggersOnly (h : HostAction) : Bool := h == .triggerNmi || h == .triggerIrq || h == .snapshot

/-- How far one Step takes a run: the end it meets, if it completes. -/
def endOfStep (s : State) : Option RunEnd := (happenInRun .step s).bind (endAfter .step)

/-- The first Step ends the run, whatever is pending. -/
theorem idle_step : ∀ nmi irq : Bool, endOfStep (idleWith nmi irq) = some .normal := by decide

/-- Events that hold a Step are those of no run, or end it normally. -/
theorem idle_run (events : List Event) (nmi irq : Bool) (k : ∀ h, .host h ∈ events → triggersOnly h = true)
    (m : .step ∈ events) : ∃ t, runFrom events (idleWith nmi irq) = .ended .normal t := by
  induction events generalizing nmi irq with
  | nil => cases m
  | cons e es ih =>
    cases e with
    | step =>
      obtain ⟨t, a, b⟩ := Option.bind_eq_some_iff.1 (idle_step nmi irq)
      exact ⟨t, by simp only [runFrom, a, b]⟩
    | host h =>
      have rest := fun x y => ih x y (fun h q => k h (by simp [q])) (by simpa using m)
      have q := k h (by simp)
      cases h with
      | triggerNmi => exact rest true irq
      | triggerIrq => exact rest nmi true
      | snapshot => exact rest nmi irq
      | reset | stallCycles _ | consumeStall _ | memoryChange _ _ => cases q

/-- R382: this program ends, whatever the host's triggers do. -/
theorem test_program_ends : ProgramEndsUnder triggersOnly (ram idleMemory) := by
  refine ⟨.inl ⟨_, _, rfl⟩, fun run k f _ => ?_⟩
  obtain ⟨m, -, hm⟩ := f 0
  obtain ⟨t, a⟩ := idle_run (firstEvents run (m + 1)) false false
    (fun h q => by
      obtain ⟨n, -, e⟩ := List.mem_map.1 q
      exact k n h e)
    (List.mem_map.2 ⟨m, by simp, hm⟩)
  exact ⟨m + 1, t, a⟩

/-- R382: the end is the first completed Step that leaves PC at the JMP, which is not counted as executed; a run from a
state already at it still takes a Step; and an unmapped byte is a fault end. -/
theorem test_run_ends :
    (match runFrom [.host .triggerNmi, .step, .step, .host .reset] (ram idleMemory) with
      | .ended e t => some (e, t.pc, t.cycles)
      | .going _ => none
      | .notARun => none) = some (.normal, 0x8000, 14) ∧
    (match runFrom [.step, .step] (ram [(0x8000, 0xEA), (0x8001, 0x4C), (0x8002, 0x01), (0x8003, 0x80), (0xFFFD, 0x80)]) with
      | .ended e t => some (e, t.pc, t.cycles)
      | .going _ => none
      | .notARun => none) = some (.normal, 0x8001, 9) ∧
    (match runFrom [.step, .step] (ram [(0x8000, 0x02), (0xFFFD, 0x80)]) with
      | .ended e t => some (e, t.pc, t.cycles)
      | .going _ => none
      | .notARun => none) = some (.fault, 0x8000, 7) := by decide

/-- R382: a masked IRQ does not keep a run from ending, and an unmasked one does. -/
theorem test_pending_irq_and_the_end :
    normalEnd (triggerIrq (ram idleMemory)) = true ∧
    normalEnd (triggerIrq { ram idleMemory with p := unpack 0x20 }) = false ∧
    normalEnd (triggerNmi (ram idleMemory)) = false := by decide

/-- R329: bit 4 of the byte at $0101+SP after a BRK and after an IRQ. -/
theorem test_stackedB :
    ((stepped sample).map stackedB, (stepped (triggerNmi sample)).map stackedB) = (some true, some false) := by decide

/-- Each clause: JMP abs to itself, JMP (abs) to itself through a pointer that wraps in its page, a run that ends each
way, a run that goes on after a Step, and a program that ends. -/
theorem witness_SelfJumpIsANormalEnd :
    ((ram idleMemory).params.memory = .plainRam ∧ normalEnd (ram idleMemory) = true) ∧
    (let s := ram [(0x1200, 0x80), (0x8000, 0x6C), (0x8001, 0xFF), (0x8002, 0x12), (0xFFFD, 0x80)];
      s.params.memory = .plainRam ∧ normalEnd s = true) ∧
    (∃ t, runFrom [.step] (ram idleMemory) = .ended .normal t) ∧
    (∃ t, runFrom [.step] (sampleWith 0x02) = .ended .fault t) ∧
    (∃ t, runFrom ([.host .triggerIrq, .step] ++ [.step]) (sampleWith 0xEA) = .going t) ∧
    (∃ start, ProgramEndsUnder triggersOnly start) :=
  ⟨by decide, by decide, ⟨_, rfl⟩, ⟨_, rfl⟩, ⟨_, rfl⟩, _, test_program_ends⟩

end Sys2Proof.Tests
end

section
/-! SUPPORT. What the data operations and the handlers of each kind leave alone: the interrupt controller, the budget,
the parameters, the fault record, PC and Cycles. -/

namespace Sys2Proof.Machine

/-! ### The data operations -/

/-- Two states agree on everything but A, X, Y, SP, P, memory and the port's own record. -/
def SameButData (s t : State) : Prop :=
  t = { s with
    a := t.a, x := t.x, y := t.y, sp := t.sp, p := t.p
    mem := t.mem, draws := t.draws, portCalls := t.portCalls }

theorem SameButData.refl (s : State) : SameButData s s := rfl

theorem SameButData.trans {s t u : State} (h : SameButData s t) (k : SameButData t u) : SameButData s u := by
  unfold SameButData at *
  rw [k, h]

theorem SameButPort.sameButData {s t : State} (h : SameButPort s t) : SameButData s t := by
  unfold SameButPort at h
  rw [h]
  rfl

theorem sameButData_memWrite (a : Word) (v : Byte) (s : State) : SameButData s (memWrite a v s) := by
  unfold SameButData memWrite
  split <;> rfl

theorem sameButData_push (v : Byte) (s : State) : SameButData s (push v s) :=
  (sameButData_memWrite _ _ _).trans rfl

theorem sameButData_push16 (w : Word) (s : State) : SameButData s (push16 w s) :=
  (sameButData_push _ _).trans (sameButData_push _ _)

theorem sameButData_pop (s : State) : SameButData s (pop s).2 :=
  SameButData.trans (t := s.setSp (s.sp + 1)) rfl (sameButPort_memRead _ _).sameButData

theorem sameButData_pop16 (s : State) : SameButData s (pop16 s).2 :=
  (sameButData_pop _).trans (sameButData_pop _)

theorem sameButData_enterHandler (ret : Word) (status : Byte) (s : State) :
    SameButData s (enterHandler ret status s) :=
  ((sameButData_push16 ret s).trans (sameButData_push status _)).trans rfl

theorem sameButData_opWrite (t : Place) (v : Byte) (s : State) : SameButData s (opWrite t v s) := by
  cases t with
  | acc => rfl
  | mem ea => exact sameButData_memWrite ea v s

theorem sameButData_reading {f : Byte → State → State} (hf : ∀ m s, SameButData s (f m s)) (o : Operand) (s : State) :
    SameButData s (reading f o s) :=
  (sameButPort_opRead o s).sameButData.trans (hf _ _)

theorem sameButData_modifying (f : Byte → Flags → Byte × Flags) (t : Place) (s : State) :
    SameButData s (modifying f t s) :=
  ((sameButPort_opRead (.place t) s).sameButData.trans (by rfl)).trans (sameButData_opWrite t _ _)

theorem sameButData_composed {f : Place → State → State} {g : Operand → State → State}
    (hf : ∀ t s, SameButData s (f t s)) (hg : ∀ o s, SameButData s (g o s)) (t : Place) (s : State) :
    SameButData s (composed f g t s) :=
  (hf t s).trans (hg _ _)

/-! ### The handlers of each kind -/

/-- Every reading handler updates A, X, Y and P alone, after its read (R108). -/
theorem sameButData_of_read {mn : Mnemonic} {h : Operand → State → State} (hk : kindOf mn = .read h)
    (o : Operand) (s : State) : SameButData s (h o s) := by
  cases mn <;> cases hk
  all_goals exact sameButData_reading (fun _ _ => by rfl) o s

/-- A store writes, a modifying handler reads and writes (R180), and a composed one then reads (R290). -/
theorem sameButData_of_write {mn : Mnemonic} {h : Place → State → State} (hk : kindOf mn = .write h)
    (t : Place) (s : State) : SameButData s (h t s) := by
  cases mn <;> cases hk
  case sta | stx | sty | sax => exact sameButData_opWrite t _ s
  case asl | lsr | rol | ror | inc | dec => exact sameButData_modifying _ t s
  case slo | rla | sre | rra | dcp | isc =>
    exact sameButData_composed (sameButData_modifying _) (sameButData_reading fun _ _ => by rfl) t s

theorem sameButData_of_implied {mn : Mnemonic} {h : State → State} (hk : kindOf mn = .implied h) (s : State) :
    SameButData s (h s) := by
  cases mn <;> cases hk
  case pha | php => exact sameButData_push _ s
  case pla | plp => exact (sameButData_pop s).trans rfl
  all_goals rfl

end Sys2Proof.Machine
end

section
/-! SUPPORT. All an instruction can do to the interrupt controller, the budget, the parameters, the fault record and
Cycles, in one inversion lemma, `exec_next_cases`. -/

namespace Sys2Proof.Machine

/-! ### What a handler can do -/

/-- All that an instruction with mnemonic `mn` that charges `n` cycles can have done from `s` to `t`, apart from the
registers, PC, P, memory and the port's record: only RTI writes a running marker (R331). -/
structure Executed (mn : Mnemonic) (n : Nat) (s t : State) : Prop where
  nmiPending : t.nmiPending = s.nmiPending
  irqPending : t.irqPending = s.irqPending
  nmiAddress : t.nmiAddress = s.nmiAddress
  irqAddress : t.irqAddress = s.irqAddress
  stallCycles : t.stallCycles = s.stallCycles
  params : t.params = s.params
  fault : t.fault = s.fault
  markers : mn ≠ .rti → t.nmiRunning = s.nmiRunning ∧ t.irqRunning = s.irqRunning
  cycles : t.cycles = s.cycles + BitVec.ofNat 64 n

theorem SameButData.executed {mn : Mnemonic} {s t : State} (h : SameButData s t) : Executed mn 0 s t := by
  unfold SameButData at h
  rw [h]
  exact ⟨rfl, rfl, rfl, rfl, rfl, rfl, rfl, fun _ => ⟨rfl, rfl⟩, (BitVec.add_zero _).symm⟩

theorem Executed.trans {mn : Mnemonic} {n m : Nat} {s t u : State} (h : Executed mn n s t) (k : Executed mn m t u) :
    Executed mn (n + m) s u where
  nmiPending := k.nmiPending.trans h.nmiPending
  irqPending := k.irqPending.trans h.irqPending
  nmiAddress := k.nmiAddress.trans h.nmiAddress
  irqAddress := k.irqAddress.trans h.irqAddress
  stallCycles := k.stallCycles.trans h.stallCycles
  params := k.params.trans h.params
  fault := k.fault.trans h.fault
  markers hmn := ⟨(k.markers hmn).1.trans (h.markers hmn).1, (k.markers hmn).2.trans (h.markers hmn).2⟩
  cycles := by rw [k.cycles, h.cycles, BitVec.add_assoc, BitVec.ofNat_add]

theorem executed_addCycles (mn : Mnemonic) (n : Nat) (s : State) : Executed mn n s (addCycles n s) :=
  ⟨rfl, rfl, rfl, rfl, rfl, rfl, rfl, fun _ => ⟨rfl, rfl⟩, rfl⟩

theorem executed_updatePc (mn : Mnemonic) (op : Byte) (next : Next) (s : State) :
    Executed mn 0 s (updatePc op next s) := by
  constructor <;> simp

/-- The most that a handler charges beyond the table: a taken branch, one more on a page cross (R230). -/
def maxBranchCharge : Mnemonic → Nat
  | .bcc | .bcs | .beq | .bmi | .bne | .bpl | .bvc | .bvs => 2
  | _ => 0

/-- All that the handler of `mn` can have done. -/
def Handled (mn : Mnemonic) (s t : State) : Prop := ∃ k ≤ maxBranchCharge mn, Executed mn k s t

theorem SameButData.handled {mn : Mnemonic} {s t : State} (h : SameButData s t) : Handled mn s t :=
  ⟨0, Nat.zero_le _, h.executed⟩

/-- All a branch can charge (R230). -/
theorem branch_executed (mn : Mnemonic) (cond : Flags → Bool) (t : Word) (s : State) :
    ∃ k ≤ 2, Executed mn k s (branch cond t s).2 := by
  unfold branch
  split
  · exact ⟨_, by have := Bool.toNat_le (branchCrossCharged t s); omega, executed_addCycles mn _ s⟩
  · exact ⟨0, by omega, (SameButData.refl s).executed⟩

theorem handled_of_jump {mn : Mnemonic} {h : Word → State → Next × State} (hk : kindOf mn = .jump h) (t : Word)
    (s : State) : Handled mn s (h t s).2 := by
  cases mn <;> cases hk
  case jmp => exact (SameButData.refl s).handled
  case jsr => exact (sameButData_push16 _ s).handled
  all_goals exact branch_executed _ _ t s

/-- The return from an interrupt writes nothing of the controller but the running markers, which only RTI does
(R273, R331). -/
theorem executed_returnFromInterrupt (s : State) : Executed .rti 0 s (returnFromInterrupt s).2 := by
  constructor <;> simp [returnFromInterrupt_spec]

theorem handled_of_leave {mn : Mnemonic} {h : Unit → State → Next × State} (hk : kindOf mn = .leave h) (s : State) :
    Handled mn s (h () s).2 := by
  cases mn <;> cases hk
  case rts => exact (sameButData_pop16 s).handled
  case brk => exact (sameButData_enterHandler _ _ s).handled
  case rti => exact ⟨0, Nat.zero_le _, executed_returnFromInterrupt s⟩

/-! ### The opcode table, byte by byte -/

/-- A claim about every byte is one about every pair of nibbles. -/
theorem forall_byte_of_nibbles {P : Byte → Prop} (h : ∀ hi lo : Fin 16, P (BitVec.ofNat 8 (16 * hi + lo))) (op : Byte) :
    P op := by
  have hop := h ⟨op.toNat / 16, by omega⟩ ⟨op.toNat % 16, by omega⟩
  rwa [Nat.div_add_mod, BitVec.ofNat_toNat, BitVec.setWidth_eq] at hop

/-- Whether the base cycles, and the base cycles with every charge that can come on top, lie between 2 and 8 (R5, R118,
R230, C6). -/
def costInRange (e : Entry) : Bool :=
  decide (2 ≤ e.cycles) && decide (e.cycles + e.pageCross.toNat + maxBranchCharge e.instr ≤ 8)

theorem opcodeTable_costInRange : ∀ op : Byte, (opcodeTable op).all costInRange = true :=
  forall_byte_of_nibbles (by decide)

theorem opcode_of_rti : ∀ op : Byte, (opcodeTable op).map Entry.instr = some .rti → op = 0x40 :=
  forall_byte_of_nibbles (by decide)

theorem mem_unmappedBytes_of_none : ∀ op : Byte, (opcodeTable op).isNone = true → op ∈ unmappedBytes :=
  forall_byte_of_nibbles (by decide)

/-! ### All an instruction can do -/

theorem sameButPort_of_readForm {f : Form} {s : State} {r : Resolved Operand} (h : readForm f s = some r) :
    SameButPort s r.state := by
  cases f <;> cases h
  case imm => exact SameButPort.refl s
  case mem m => exact sameButPort_resolveMem m s

theorem sameButPort_of_writeForm {f : Form} {s : State} {r : Resolved Place} (h : writeForm f s = some r) :
    SameButPort s r.state := by
  cases f <;> cases h
  case acc => exact SameButPort.refl s
  case mem m => exact sameButPort_resolveMem m s

theorem sameButPort_of_jumpForm {f : Form} {s : State} {r : Resolved Word} (h : jumpForm f s = some r) :
    SameButPort s r.state := by
  unfold jumpForm at h
  split at h <;> cases h
  case h_1 => exact SameButPort.refl s
  case h_2 addr => exact sameButPort_readWordBug addr s
  case h_3 => exact SameButPort.refl s

/-- What the table charges, whatever the page-cross bit and the branch, lies between 2 and 8. -/
theorem charge_bounds {op : Byte} {e : Entry} (he : opcodeTable op = some e) (cross : Bool) {k : Nat}
    (hk : k ≤ maxBranchCharge e.instr) :
    2 ≤ baseCycles op + (crossCharged op && cross).toNat + k ∧
      baseCycles op + (crossCharged op && cross).toNat + k ≤ 8 := by
  have hrange := opcodeTable_costInRange op
  simp only [he, Option.all_some, costInRange, Bool.and_eq_true, decide_eq_true_eq] at hrange
  obtain ⟨hlow, hhigh⟩ := hrange
  have hcross : (e.pageCross && cross).toNat ≤ e.pageCross.toNat := by cases e.pageCross <;> simp [Bool.toNat_le]
  simp only [baseCycles, crossCharged, he, Option.map_some, Option.getD_some]
  omega

/-- The part of a Step after decode (R117), for a handler that does what handlers do. -/
theorem run_executed {α : Type} {op : Byte} {e : Entry} {r : Resolved α} {h : α → State → Next × State} {s t : State}
    (he : opcodeTable op = some e) (hr : SameButPort s r.state) (hh : ∀ u, Handled e.instr u (h r.operand u).2)
    (ht : run op r h = .next t) : ∃ n, (2 ≤ n ∧ n ≤ 8) ∧ Executed e.instr n s t := by
  obtain ⟨k, hk, hexec⟩ := hh (account op r.cross r.state)
  have hresolve : Executed e.instr 0 s r.state := hr.sameButData.executed
  have haccount : Executed e.instr _ r.state (account op r.cross r.state) := executed_addCycles ..
  rw [run_eq] at ht
  cases ht
  have hall := ((hresolve.trans haccount).trans hexec).trans
    (executed_updatePc e.instr op (h r.operand (account op r.cross r.state)).1 _)
  rw [Nat.zero_add, Nat.add_zero] at hall
  exact ⟨_, charge_bounds he r.cross hk, hall⟩

/-- All an instruction can do: an unmapped byte raises IllegalOpcode (R333), and every other instruction charges 2 to 8
cycles and keeps the controller. -/
theorem exec_next_cases {i : Instr} {s t : State} (h : exec i s = .next t) :
    (i.entry = none ∧ t = raiseIllegal i.opcode s) ∨
    ∃ e n, i.entry = some e ∧ (2 ≤ n ∧ n ≤ 8) ∧ Executed e.instr n s t := by
  rcases exec_cases i s with ⟨he, hx⟩ | ⟨e, he, hkind⟩
  · rw [hx] at h
    cases h
    exact .inl ⟨he, rfl⟩
  refine .inr ⟨e, ?_⟩
  suffices hex : ∃ n, (2 ≤ n ∧ n ≤ 8) ∧ Executed e.instr n s t from hex.imp fun _ hn => ⟨he, hn⟩
  rcases hkind with ⟨f, r, hk, hr, hx⟩ | ⟨f, r, hk, hr, hx⟩ | ⟨f, hk, -, hx⟩ | ⟨-, hx⟩ | ⟨f, r, hk, hr, hx⟩ |
    ⟨f, hk, -, hx⟩ <;> rw [hx] at h
  · exact run_executed he (sameButPort_of_readForm hr) (fun u => (sameButData_of_read hk _ u).handled) h
  · exact run_executed he (sameButPort_of_writeForm hr) (fun u => (sameButData_of_write hk _ u).handled) h
  · exact run_executed (r := noOperand s) (h := fun _ u => (.sequential, f u)) he (SameButPort.refl s)
      (fun u => (sameButData_of_implied hk u).handled) h
  · exact run_executed (r := ⟨(), crossOf i.form s, resolvedState i.form s⟩) (h := fun _ u => (.sequential, u)) he
      (sameButPort_resolvedState i.form s) (fun u => (SameButData.refl u).handled) h
  · exact run_executed he (sameButPort_of_jumpForm hr) (handled_of_jump hk r.operand) h
  · exact run_executed he (SameButPort.refl s) (handled_of_leave hk) h

end Sys2Proof.Machine
end

section
/-! SUPPORT. All a Step can do, in one inversion lemma, `step_next_cases`; what it keeps, and what it charges. -/

namespace Sys2Proof.Machine

/-- What is fixed for every Step: the cached vectors, the budget and the parameters; and no latch is set (R42, R43, R45,
R5). -/
structure KeepsFixed (s t : State) : Prop where
  nmiAddress : t.nmiAddress = s.nmiAddress
  irqAddress : t.irqAddress = s.irqAddress
  stallCycles : t.stallCycles = s.stallCycles
  params : t.params = s.params
  nmiPending : t.nmiPending = true → s.nmiPending = true
  irqPending : t.irqPending = true → s.irqPending = true

theorem KeepsFixed.trans {s t u : State} (h : KeepsFixed s t) (k : KeepsFixed t u) : KeepsFixed s u where
  nmiAddress := k.nmiAddress.trans h.nmiAddress
  irqAddress := k.irqAddress.trans h.irqAddress
  stallCycles := k.stallCycles.trans h.stallCycles
  params := k.params.trans h.params
  nmiPending := h.nmiPending ∘ k.nmiPending
  irqPending := h.irqPending ∘ k.irqPending

theorem Executed.keepsFixed {mn : Mnemonic} {n : Nat} {s t : State} (h : Executed mn n s t) : KeepsFixed s t :=
  ⟨h.nmiAddress, h.irqAddress, h.stallCycles, h.params, h.nmiPending ▸ id, h.irqPending ▸ id⟩

theorem SameButPort.keepsFixed {s t : State} (h : SameButPort s t) : KeepsFixed s t :=
  ⟨h.nmiAddress, h.irqAddress, h.stallCycles, h.params, h.nmiPending ▸ id, h.irqPending ▸ id⟩

theorem exec_keepsFixed {i : Instr} {s t : State} (h : exec i s = .next t) : KeepsFixed s t := by
  rcases exec_next_cases h with ⟨-, rfl⟩ | ⟨e, n, -, -, hexec⟩
  · exact ⟨rfl, rfl, rfl, rfl, id, id⟩
  · exact hexec.keepsFixed

theorem runInstruction_eq (s : State) : runInstruction s = exec (fetch s).1 (fetch s).2 := rfl

theorem runInstruction_keepsFixed {s t : State} (h : runInstruction s = .next t) : KeepsFixed s t := by
  rw [runInstruction_eq] at h
  exact (sameButPort_fetch s).keepsFixed.trans (exec_keepsFixed h)

/-- All the check point can do (R323, R326, R327). -/
theorem serviceInterrupt_cases {s t : State} (h : serviceInterrupt s = some t) :
    t = serviceNmi s ∨ t = serviceIrq s := by
  unfold serviceInterrupt at h
  split at h
  · exact .inl (Option.some.inj h).symm
  · split at h
    · exact .inr (Option.some.inj h).symm
    · cases h

theorem serviceInterrupt_keepsFixed {s t : State} (h : serviceInterrupt s = some t) : KeepsFixed s t := by
  rcases serviceInterrupt_cases h with rfl | rfl
  · constructor <;> simp [serviceNmi]
  · constructor <;> simp [serviceIrq]

/-- Servicing an interrupt charges 7 cycles and records no fault (R328). -/
theorem serviceInterrupt_cycles {s t : State} (h : serviceInterrupt s = some t) :
    t.cycles = s.cycles + 7 ∧ t.fault = s.fault := by
  rcases serviceInterrupt_cases h with rfl | rfl
  · simp [serviceNmi]
  · simp [serviceIrq]

/-- All a Step that answers can be: an interrupt serviced, that and the instruction at the vector (R338), or an
instruction (R117). -/
theorem step_next_cases {s t : State} (h : step s = .next t) :
    s.fault = none ∧
    ((s.params.fusedInterruptStep = false ∧ serviceInterrupt s.beginStep = some t) ∨
     (∃ u, s.params.fusedInterruptStep = true ∧ serviceInterrupt s.beginStep = some u ∧ runInstruction u = .next t) ∨
     runInstruction s.beginStep = .next t) := by
  cases hf : s.fault with
  | some e =>
    rw [step_of_fault hf] at h
    cases h
  | none =>
    rw [step_of_running hf] at h
    refine ⟨rfl, ?_⟩
    cases hi : serviceInterrupt s.beginStep with
    | none =>
      rw [stepRunning_none hi] at h
      exact .inr (.inr h)
    | some u =>
      have hp : u.params = s.params := (serviceInterrupt_keepsFixed hi).params
      rw [stepRunning_some hi, hp] at h
      split at h
      next hfused => exact .inr (.inl ⟨u, hfused, rfl, h⟩)
      next hfused =>
        cases h
        exact .inl ⟨by simpa using hfused, rfl⟩

theorem step_keepsFixed {s t : State} (h : step s = .next t) : KeepsFixed s t := by
  have hbegin : KeepsFixed s s.beginStep := ⟨rfl, rfl, rfl, rfl, id, id⟩
  rcases (step_next_cases h).2 with ⟨-, hi⟩ | ⟨u, -, hi, hx⟩ | hx
  · exact hbegin.trans (serviceInterrupt_keepsFixed hi)
  · exact (hbegin.trans (serviceInterrupt_keepsFixed hi)).trans (runInstruction_keepsFixed hx)
  · exact hbegin.trans (runInstruction_keepsFixed hx)

/-- The cycles of one instruction run where no fault is recorded: 2 to 8, and none when it faults (R118, R230, R334). -/
theorem runInstruction_cycles {s t : State} (hf : s.fault = none) (h : runInstruction s = .next t) :
    ∃ n : Nat, t.cycles = s.cycles + BitVec.ofNat 64 n ∧
      (t.fault = none → 2 ≤ n ∧ n ≤ 8) ∧ (t.fault ≠ none → n = 0) := by
  have hfetch := sameButPort_fetch s
  rw [runInstruction_eq] at h
  rcases exec_next_cases h with ⟨-, rfl⟩ | ⟨e, n, -, hn, hexec⟩
  · exact ⟨0, by simp [hfetch.cycles], by simp, by simp⟩
  · have hnone : t.fault = none := by rw [hexec.fault, hfetch.fault, hf]
    exact ⟨n, by rw [hexec.cycles, hfetch.cycles], fun _ => hn, fun hsome => absurd hnone hsome⟩

end Sys2Proof.Machine
end

section
/-! SUPPORT. V after ADC and SBC is signed overflow. -/

namespace Sys2Proof.Machine

/-- $69 ADC # (R181). -/
theorem exec_adcImm (m : Byte) (s : State) :
    exec (.adcImm m) s =
      .next (updatePc 0x69 .sequential (intoA (addWithCarry s.a m s.p) (account 0x69 false s))) := rfl

/-- $E9 SBC # (R182). -/
theorem exec_sbcImm (m : Byte) (s : State) :
    exec (.sbcImm m) s =
      .next (updatePc 0xE9 .sequential (intoA (subWithBorrow s.a m s.p) (account 0xE9 false s))) := rfl

@[simp] theorem intoA_p (r : Byte × Flags) (s : State) : (intoA r s).p = r.2 := rfl

/-- The test of bit 7 that R181 and R182 write is a comparison of signs. -/
theorem xor_and_signBit_beq_zero (x y : Byte) : ((x ^^^ y) &&& 0x80 == 0) = (x.msb == y.msb) := by
  have hmask : ∀ z : Byte, (z &&& 0x80 == 0) = !z.msb := by decide
  rw [hmask, BitVec.msb_xor]
  cases x.msb <;> cases y.msb <;> rfl

/-- V after ADC: the operands agree in sign and the sum does not (R181). -/
theorem addWithCarry_v (a m : Byte) (p : Flags) :
    (addWithCarry a m p).2.v = (a.msb == m.msb && a.msb != (addWithCarry a m p).1.msb) := by
  simp only [addWithCarry, setNZ_v, bne, xor_and_signBit_beq_zero]

/-- V after SBC: the operands differ in sign and the difference's sign is not the accumulator's (R182). -/
theorem subWithBorrow_v (a m : Byte) (p : Flags) :
    (subWithBorrow a m p).2.v = (a.msb != m.msb && a.msb != (subWithBorrow a m p).1.msb) := by
  simp only [subWithBorrow, setNZ_v, bne, xor_and_signBit_beq_zero]

/-- V after ADC is signed overflow (R7, R181). -/
theorem addWithCarry_v_iff (a m : Byte) (p : Flags) :
    (addWithCarry a m p).2.v = true ↔
      a.toInt + m.toInt + p.c.toNat < -128 ∨ 127 < a.toInt + m.toInt + p.c.toNat := by
  have hcarry : p.c.toNat ≤ 1 := Bool.toNat_le p.c
  have hresult : (addWithCarry a m p).1.toNat = (a.toNat + m.toNat + p.c.toNat) % 256 := rfl
  rw [addWithCarry_v]
  simp only [Bool.and_eq_true, beq_iff_eq, bne_iff_ne, ne_eq, BitVec.msb_eq_decide, decide_eq_decide, hresult,
    BitVec.toInt_eq_toNat_cond]
  omega

/-- V after SBC is signed overflow (R7, R182). -/
theorem subWithBorrow_v_iff (a m : Byte) (p : Flags) :
    (subWithBorrow a m p).2.v = true ↔
      a.toInt - m.toInt - (1 - p.c.toNat) < -128 ∨ 127 < a.toInt - m.toInt - (1 - p.c.toNat) := by
  have hcarry : p.c.toNat ≤ 1 := Bool.toNat_le p.c
  have hresult : ((subWithBorrow a m p).1.toNat : Int) = ((a.toNat : Int) - m.toNat - (1 - p.c.toNat)) % 256 := by
    simp only [subWithBorrow, BitVec.toNat_ofInt]
    omega
  rw [subWithBorrow_v]
  simp only [Bool.and_eq_true, bne_iff_ne, ne_eq, BitVec.msb_eq_decide, decide_eq_decide, BitVec.toInt_eq_toNat_cond]
  omega

end Sys2Proof.Machine
end

section
/-! SUPPORT. The obligations of spec/00_scope.md that are settled: O14, O38, O54, O57 and O58. -/

namespace Sys2Proof.Machine

/-- Settles O14, from `addWithCarry_v_iff` and `subWithBorrow_v_iff`. -/
theorem overflowFlagIsSignedOverflow : Obligations.OverflowFlagIsSignedOverflow := by
  intro m s t
  constructor
  · intro h
    rw [exec_adcImm] at h
    cases h
    rw [updatePc_p, intoA_p]
    exact addWithCarry_v_iff s.a m s.p
  · intro h
    rw [exec_sbcImm] at h
    cases h
    rw [updatePc_p, intoA_p]
    exact subWithBorrow_v_iff s.a m s.p

/-- Settles O38, from all an instruction can do (`exec_next_cases`): only RTI's opcode has RTI's entry, and only the
unmapped bytes have none. -/
theorem controllerFrame : Obligations.ControllerFrame := by
  intro i s t h
  rcases exec_next_cases h with ⟨he, rfl⟩ | ⟨e, n, he, -, hexec⟩
  · have hunmapped : i.opcode ∈ unmappedBytes := mem_unmappedBytes_of_none i.opcode (Option.isNone_iff_eq_none.mpr he)
    exact ⟨rfl, rfl, rfl, rfl, rfl, rfl, fun _ => ⟨rfl, rfl⟩, fun hmapped => absurd hunmapped hmapped⟩
  · have hrti : i.opcode ≠ 0x40 → e.instr ≠ .rti := fun hop hmn =>
      hop (opcode_of_rti i.opcode (Option.map_eq_some_iff.mpr ⟨e, he, hmn⟩))
    exact ⟨hexec.nmiPending, hexec.irqPending, hexec.nmiAddress, hexec.irqAddress, hexec.stallCycles, hexec.params,
      fun hop => hexec.markers (hrti hop), fun _ => hexec.fault⟩

/-- Settles O57, from all a Step can do (`step_next_cases`): every part of it keeps what is fixed. -/
theorem stepChangesNoFixedState : Obligations.StepChangesNoFixedState := by
  intro s t h
  have hkeep := step_keepsFixed h
  exact ⟨hkeep.nmiAddress, hkeep.irqAddress, hkeep.stallCycles, hkeep.params, hkeep.nmiPending, hkeep.irqPending⟩

/-- Settles O58: an unfused Step is one interrupt entry of 7 cycles or one instruction. -/
theorem stepCyclesAdvance : Obligations.StepCyclesAdvance := by
  intro s t h hunfused
  obtain ⟨hf, hstep⟩ := step_next_cases h
  rcases hstep with ⟨-, hi⟩ | ⟨u, hfused, -⟩ | hx
  · obtain ⟨hcycles, hfault⟩ := serviceInterrupt_cycles hi
    exact ⟨7, hcycles, fun _ => by omega, fun hsome => absurd (hfault.trans hf) hsome⟩
  · rw [hunfused] at hfused
    cases hfused
  · exact runInstruction_cycles (s := s.beginStep) hf hx

/-- The state after reset meets the invariant (R39, R49). -/
theorem reset_coreInv : CoreInv State.reset := ⟨reset_mem_wf, rfl, rfl⟩

/-- Construction over a memory that lists nothing reads $00 for every vector byte (R370, R373). -/
theorem construct_default_nil : construct Config.defaultParams [] = State.reset := rfl

/-- Settles O54. -/
theorem resetStateIsConstruction : Obligations.ResetStateIsConstruction :=
  ⟨construct_default_nil.symm, reset_coreInv, rfl, rfl, rfl, rfl, rfl, rfl, rfl, rfl, rfl⟩

end Sys2Proof.Machine
end

section
/-! SUPPORT. How every mapped instruction runs, in one inversion lemma, `exec_ran`: its resolver and the table's cycles,
the handler of its mnemonic, and the PC update. Every instruction answers a next state, and so does every Step with no
fault recorded. -/

namespace Sys2Proof.Machine

/-! ### The handler of an instruction -/

/-- The handler of `mn`, on an operand that the form `f` can have, ran from `w` and left `v`. Only the form `A` gives a
handler the accumulator to write (R96, R109). -/
inductive Ran (mn : Mnemonic) (f : Form) (w : State) : State → Prop where
  | read {h : Operand → State → State} (hk : kindOf mn = .read h) (o : Operand) : Ran mn f w (h o w)
  | write {h : Place → State → State} (hk : kindOf mn = .write h) (t : Place) (ht : t = .acc → f = .acc) :
      Ran mn f w (h t w)
  | implied {h : State → State} (hk : kindOf mn = .implied h) : Ran mn f w (h w)
  | ignore (hk : kindOf mn = .ignore) : Ran mn f w w
  | jump {h : Word → State → Next × State} (hk : kindOf mn = .jump h) (t : Word) : Ran mn f w (h t w).2
  | leave {h : Unit → State → Next × State} (hk : kindOf mn = .leave h) : Ran mn f w (h () w).2

/-- Two states hold the same registers, flags and memory: what the resolver, cycle accounting and the PC update keep. -/
structure SameData (s t : State) : Prop where
  a : t.a = s.a
  x : t.x = s.x
  y : t.y = s.y
  sp : t.sp = s.sp
  p : t.p = s.p
  mem : t.mem = s.mem

theorem SameButPort.sameData {s t : State} (h : SameButPort s t) : SameData s t :=
  ⟨h.a, h.x, h.y, h.sp, h.p, h.mem⟩

theorem sameData_updatePc (op : Byte) (n : Next) (s : State) : SameData s (updatePc op n s) := by
  constructor <;> simp

/-- Cycle accounting after the resolver keeps the data (R94, R118). -/
theorem sameData_account {s u : State} (h : SameButPort s u) (op : Byte) (cross : Bool) :
    SameData s (account op cross u) :=
  ⟨h.a, h.x, h.y, h.sp, h.p, h.mem⟩

theorem acc_of_writeForm {f : Form} {s : State} {r : Resolved Place} (h : writeForm f s = some r)
    (hr : r.operand = .acc) : f = .acc := by
  cases f <;> cases h
  case acc => rfl
  case mem m => cases hr

/-- How a mapped instruction runs (R117): its resolver and the cycles of the table keep the data, its handler runs, and
the PC update keeps the data. -/
theorem exec_ran {i : Instr} {e : Entry} {s t : State} (he : i.entry = some e) (h : exec i s = .next t) :
    ∃ w v, SameData s w ∧ Ran e.instr i.form w v ∧ SameData v t := by
  rcases exec_entry (s := s) he with ⟨f, r, hk, hr, hx⟩ | ⟨f, r, hk, hr, hx⟩ | ⟨f, hk, -, hx⟩ | ⟨hk, hx⟩ |
    ⟨f, r, hk, hr, hx⟩ | ⟨f, hk, -, hx⟩ <;> rw [hx] at h <;> cases h
  · exact ⟨_, _, sameData_account (sameButPort_of_readForm hr) .., .read hk r.operand, sameData_updatePc ..⟩
  · exact ⟨_, _, sameData_account (sameButPort_of_writeForm hr) .., .write hk r.operand (acc_of_writeForm hr),
      sameData_updatePc ..⟩
  · exact ⟨_, _, sameData_account (SameButPort.refl s) .., .implied hk, sameData_updatePc ..⟩
  · exact ⟨_, _, sameData_account (sameButPort_resolvedState i.form s) .., .ignore hk, sameData_updatePc ..⟩
  · exact ⟨_, _, sameData_account (sameButPort_of_jumpForm hr) .., .jump hk r.operand, sameData_updatePc ..⟩
  · exact ⟨_, _, sameData_account (SameButPort.refl s) .., .leave hk, sameData_updatePc ..⟩

/-- Every instruction at every state answers a next state (R334, R336). -/
theorem exec_answers (i : Instr) (s : State) : ∃ t, exec i s = .next t := by
  rcases exec_cases i s with ⟨-, hx⟩ | ⟨e, -, ⟨f, r, -, -, hx⟩ | ⟨f, r, -, -, hx⟩ | ⟨f, -, -, hx⟩ | ⟨-, hx⟩ |
    ⟨f, r, -, -, hx⟩ | ⟨f, -, -, hx⟩⟩ <;> exact ⟨_, hx⟩

/-- With no fault recorded every Step answers a next state, whether or not it services an interrupt. -/
theorem step_answers {s : State} (hf : s.fault = none) : ∃ t, step s = .next t := by
  rw [step_of_running hf]
  cases hi : serviceInterrupt s.beginStep with
  | none =>
    rw [stepRunning_none hi]
    exact exec_answers _ _
  | some t =>
    rw [stepRunning_some hi]
    split
    · exact exec_answers _ _
    · exact ⟨t, rfl⟩

theorem hostReset_fault (s : State) : (hostReset s).fault = none := by simp [hostReset, resetRegisters]

end Sys2Proof.Machine
end

section
/-! SUPPORT. What each handler, and so each mapped instruction, leaves of the registers and the flags (spec/10_state.md
R31 to R39), in one lemma, `exec_framed`. -/

namespace Sys2Proof.Machine

/-! ### The operand accessors, field by field -/

@[simp] theorem opRead_a (o : Operand) (s : State) : (opRead o s).2.a = s.a := (sameButPort_opRead o s).a
@[simp] theorem opRead_x (o : Operand) (s : State) : (opRead o s).2.x = s.x := (sameButPort_opRead o s).x
@[simp] theorem opRead_y (o : Operand) (s : State) : (opRead o s).2.y = s.y := (sameButPort_opRead o s).y
@[simp] theorem opRead_sp (o : Operand) (s : State) : (opRead o s).2.sp = s.sp := (sameButPort_opRead o s).sp
@[simp] theorem opRead_p (o : Operand) (s : State) : (opRead o s).2.p = s.p := (sameButPort_opRead o s).p
@[simp] theorem opRead_mem (o : Operand) (s : State) : (opRead o s).2.mem = s.mem := (sameButPort_opRead o s).mem

/-- Only a write to the accumulator writes A (R109). -/
theorem opWrite_a {t : Place} (ht : t ≠ .acc) (v : Byte) (s : State) : (opWrite t v s).a = s.a := by
  cases t with
  | acc => exact absurd rfl ht
  | mem ea => exact memWrite_a ea v s

@[simp] theorem opWrite_x (t : Place) (v : Byte) (s : State) : (opWrite t v s).x = s.x := by
  cases t <;> simp [opWrite]

@[simp] theorem opWrite_y (t : Place) (v : Byte) (s : State) : (opWrite t v s).y = s.y := by
  cases t <;> simp [opWrite]

@[simp] theorem opWrite_sp (t : Place) (v : Byte) (s : State) : (opWrite t v s).sp = s.sp := by
  cases t <;> simp [opWrite]

@[simp] theorem opWrite_p (t : Place) (v : Byte) (s : State) : (opWrite t v s).p = s.p := by
  cases t <;> simp [opWrite]

theorem modifying_eq (f : Byte → Flags → Byte × Flags) (t : Place) (s : State) :
    modifying f t s = opWrite t (f (opRead (.place t) s).1 (opRead (.place t) s).2.p).1
      ((opRead (.place t) s).2.setP (f (opRead (.place t) s).1 (opRead (.place t) s).2.p).2) := rfl

/-- A read-modify-write of memory leaves A alone (R180). -/
theorem modifying_a (f : Byte → Flags → Byte × Flags) {t : Place} (ht : t ≠ .acc) (s : State) :
    (modifying f t s).a = s.a := by
  simp [modifying_eq, opWrite_a ht]

@[simp] theorem modifying_x (f : Byte → Flags → Byte × Flags) (t : Place) (s : State) :
    (modifying f t s).x = s.x := by simp [modifying_eq]

@[simp] theorem modifying_y (f : Byte → Flags → Byte × Flags) (t : Place) (s : State) :
    (modifying f t s).y = s.y := by simp [modifying_eq]

@[simp] theorem modifying_sp (f : Byte → Flags → Byte × Flags) (t : Place) (s : State) :
    (modifying f t s).sp = s.sp := by simp [modifying_eq]

@[simp] theorem modifying_p (f : Byte → Flags → Byte × Flags) (t : Place) (s : State) :
    (modifying f t s).p = (f (opRead (.place t) s).1 s.p).2 := by simp [modifying_eq]

/-! ### What a handler leaves alone -/

/-- The shifts and rotates, which write A in the form `A` only (R31, R197). -/
@[simp] def shiftsAndRotates : List Mnemonic := [.asl, .lsr, .rol, .ror]

/-- The other writers of A (R31). -/
@[simp] def writersOfA : List Mnemonic :=
  [.lda, .txa, .tya, .pla, .adc, .sbc, .sbcUnofficial, .and, .ora, .eor, .lax, .slo, .rla, .sre, .rra, .isc]

/-- What the handler of `mn`, on an operand of the form `f`, leaves of the registers (R31 to R34) and of the flags
(R37, R39): the form `A` alone lets a shift or a rotate write A. -/
structure Framed (mn : Mnemonic) (f : Form) (s t : State) : Prop where
  a : mn ∉ writersOfA → f ≠ .acc → t.a = s.a
  x : mn ∉ ([.ldx, .tax, .tsx, .inx, .dex, .lax] : List Mnemonic) → t.x = s.x
  y : mn ∉ ([.ldy, .tay, .iny, .dey] : List Mnemonic) → t.y = s.y
  sp : mn ∉ ([.txs, .pha, .php, .pla, .plp, .jsr, .rts, .brk, .rti] : List Mnemonic) → t.sp = s.sp
  c : mn ∉ ([.adc, .sbc, .sbcUnofficial, .asl, .lsr, .rol, .ror, .cmp, .cpx, .cpy, .clc, .sec, .plp, .rti, .slo, .rla,
    .sre, .rra, .dcp, .isc] : List Mnemonic) → t.p.c = s.p.c
  zn : mn ∉ ([.lda, .ldx, .ldy, .tax, .tay, .txa, .tya, .tsx, .pla, .adc, .sbc, .sbcUnofficial, .and, .ora, .eor, .bit,
    .cmp, .cpx, .cpy, .inc, .dec, .inx, .iny, .dex, .dey, .asl, .lsr, .rol, .ror, .slo, .rla, .sre, .rra, .dcp, .isc,
    .lax, .plp, .rti] : List Mnemonic) → t.p.z = s.p.z ∧ t.p.n = s.p.n
  i : mn ∉ ([.sei, .cli, .plp, .rti, .brk] : List Mnemonic) → t.p.i = s.p.i
  d : mn ∉ ([.sed, .cld, .plp, .rti] : List Mnemonic) → t.p.d = s.p.d
  bu : mn ∉ ([.plp, .rti] : List Mnemonic) → t.p.b = s.p.b ∧ t.p.u = s.p.u
  v : mn ∉ ([.adc, .sbc, .sbcUnofficial, .bit, .clv, .plp, .rti, .rra, .isc] : List Mnemonic) → t.p.v = s.p.v

theorem SameData.framed {mn : Mnemonic} {f : Form} {s t : State} (h : SameData s t) : Framed mn f s t := by
  constructor <;> simp [h.a, h.x, h.y, h.sp, h.p]

theorem Framed.trans {mn : Mnemonic} {f : Form} {s t u : State} (h : Framed mn f s t) (k : Framed mn f t u) :
    Framed mn f s u where
  a hmn hf := (k.a hmn hf).trans (h.a hmn hf)
  x hmn := (k.x hmn).trans (h.x hmn)
  y hmn := (k.y hmn).trans (h.y hmn)
  sp hmn := (k.sp hmn).trans (h.sp hmn)
  c hmn := (k.c hmn).trans (h.c hmn)
  zn hmn := ⟨(k.zn hmn).1.trans (h.zn hmn).1, (k.zn hmn).2.trans (h.zn hmn).2⟩
  i hmn := (k.i hmn).trans (h.i hmn)
  d hmn := (k.d hmn).trans (h.d hmn)
  bu hmn := ⟨(k.bu hmn).1.trans (h.bu hmn).1, (k.bu hmn).2.trans (h.bu hmn).2⟩
  v hmn := (k.v hmn).trans (h.v hmn)

/-- A reading handler writes the registers it loads, A with the flags of a result, or flags alone. -/
theorem framed_of_read {mn : Mnemonic} {h : Operand → State → State} (hk : kindOf mn = .read h) (f : Form)
    (o : Operand) (s : State) : Framed mn f s (h o s) := by
  cases mn <;> cases hk
  case lda | ldx | ldy | lax =>
    constructor <;> simp [handleLda, handleLdx, handleLdy, handleLax, reading_eq]
  case adc | sbc | sbcUnofficial | and | ora | eor =>
    constructor <;> simp [handleAdc, handleSbc, handleAnd, handleOra, handleEor, reading_eq, intoA, addWithCarry,
      subWithBorrow]
  case bit | cmp | cpx | cpy =>
    constructor <;> simp [handleBit, handleCmp, handleCpx, handleCpy, reading_eq, bitFlags, compareFlags]

/-- A store writes no register and no flag; a modifying handler writes flags, and A where A is its operand; a composed
one writes what its two parts do (R290). -/
theorem framed_of_write {mn : Mnemonic} {h : Place → State → State} (hk : kindOf mn = .write h) {f : Form}
    {t : Place} (ht : t = .acc → f = .acc) (s : State) : Framed mn f s (h t s) := by
  have hmem : f ≠ .acc → t ≠ .acc := mt ht
  cases mn <;> cases hk
  case sta | stx | sty | sax =>
    constructor <;> simp +contextual [handleSta, handleStx, handleSty, handleSax, opWrite_a, hmem]
  case asl | lsr | rol | ror | inc | dec =>
    constructor <;> simp +contextual [handleAsl, handleLsr, handleRol, handleRor, handleInc, handleDec, modifying_a,
      hmem, shiftLeft, shiftRight, rotateLeft, rotateRight, increment, decrement]
  case slo | rla | sre =>
    constructor <;> simp [handleSlo, handleRla, handleSre, composed, handleAsl, handleRol, handleLsr, handleOra,
      handleAnd, handleEor, reading_eq, intoA, shiftLeft, rotateLeft, shiftRight]
  case rra | isc =>
    constructor <;> simp [handleRra, handleIsc, composed, handleRor, handleInc, handleAdc, handleSbc, reading_eq, intoA,
      rotateRight, increment, addWithCarry, subWithBorrow]
  case dcp =>
    constructor <;> simp +contextual [handleDcp, composed, handleDec, handleCmp, reading_eq, modifying_a, hmem,
      decrement, compareFlags]

theorem framed_of_implied {mn : Mnemonic} {h : State → State} (hk : kindOf mn = .implied h) (f : Form) (s : State) :
    Framed mn f s (h s) := by
  cases mn <;> cases hk
  case tax | tay | txa | tya | tsx | txs =>
    constructor <;> simp [handleTax, handleTay, handleTxa, handleTya, handleTsx, handleTxs]
  case inx | iny | dex | dey =>
    constructor <;> simp [handleInx, handleIny, handleDex, handleDey]
  case pha | php | pla | plp =>
    constructor <;> simp [handlePha, handlePhp, handlePla, handlePlp]
  case clc | cld | cli | clv | sec | sed | sei =>
    constructor <;> simp [handleClc, handleCld, handleCli, handleClv, handleSec, handleSed, handleSei]

/-- A branch changes at most Cycles (R230). -/
theorem sameData_branch (cond : Flags → Bool) (t : Word) (s : State) : SameData s (branch cond t s).2 := by
  unfold branch
  split <;> exact ⟨rfl, rfl, rfl, rfl, rfl, rfl⟩

theorem framed_of_jump {mn : Mnemonic} {h : Word → State → Next × State} (hk : kindOf mn = .jump h) (f : Form)
    (t : Word) (s : State) : Framed mn f s (h t s).2 := by
  cases mn <;> cases hk
  case jmp => exact (SameButPort.refl s).sameData.framed
  case jsr => constructor <;> simp [handleJsr]
  all_goals exact (sameData_branch _ t s).framed

theorem framed_of_leave {mn : Mnemonic} {h : Unit → State → Next × State} (hk : kindOf mn = .leave h) (f : Form)
    (s : State) : Framed mn f s (h () s).2 := by
  cases mn <;> cases hk
  case rts => constructor <;> simp [handleRts]
  case brk => constructor <;> simp [handleBrk]
  case rti => constructor <;> simp [handleRti, returnFromInterrupt_spec]

theorem Ran.framed {mn : Mnemonic} {f : Form} {s t : State} (h : Ran mn f s t) : Framed mn f s t := by
  cases h with
  | read hk o => exact framed_of_read hk f o s
  | write hk t ht => exact framed_of_write hk ht s
  | implied hk => exact framed_of_implied hk f s
  | ignore _ => exact (SameButPort.refl s).sameData.framed
  | jump hk t => exact framed_of_jump hk f t s
  | leave hk => exact framed_of_leave hk f s

/-- What a mapped instruction leaves of the registers and the flags. -/
theorem exec_framed {i : Instr} {e : Entry} {s t : State} (he : i.entry = some e) (h : exec i s = .next t) :
    Framed e.instr i.form s t := by
  obtain ⟨w, v, hw, hran, hv⟩ := exec_ran he h
  exact (hw.framed.trans hran.framed).trans hv.framed

/-- Only shifts and rotates have the form `A` (R96, R197). -/
theorem mem_shiftsAndRotates_of_acc {i : Instr} {e : Entry} (he : i.entry = some e) (hacc : i.form = .acc) :
    e.instr ∈ shiftsAndRotates := by
  cases i <;> cases hacc <;> cases he <;> decide

end Sys2Proof.Machine
end

section
/-! SUPPORT. The invariant of the core, `CoreInv`, is kept by every handler, every instruction, every Step and every
host action, and so along every run. -/

namespace Sys2Proof.Machine

/-! ### Instructions -/

theorem SameData.coreInv {s t : State} (h : SameData s t) (hs : CoreInv s) : CoreInv t := by
  unfold CoreInv
  rwa [h.mem, h.p]

theorem SameButPort.coreInv {s t : State} (h : SameButPort s t) (hs : CoreInv s) : CoreInv t := h.sameData.coreInv hs

theorem reading_mem {f : Byte → State → State} (hf : ∀ m s, (f m s).mem = s.mem) (o : Operand) (s : State) :
    (reading f o s).mem = s.mem := by
  rw [reading_eq, hf, opRead_mem]

/-- A reading handler leaves memory alone. -/
theorem mem_of_read {mn : Mnemonic} {h : Operand → State → State} (hk : kindOf mn = .read h) (o : Operand)
    (s : State) : (h o s).mem = s.mem := by
  cases mn <;> cases hk
  all_goals exact reading_mem (fun _ _ => rfl) o s

/-- A composed handler writes memory in its first part alone (R290). -/
theorem composed_wf {f : Place → State → State} {g : Operand → State → State}
    (hf : ∀ t s, s.mem.wf = true → (f t s).mem.wf = true) (hg : ∀ o s, (g o s).mem = s.mem) (t : Place) (s : State)
    (hs : s.mem.wf = true) : (composed f g t s).mem.wf = true := by
  unfold composed
  rw [hg]
  exact hf t s hs

theorem mem_wf_of_write {mn : Mnemonic} {h : Place → State → State} (hk : kindOf mn = .write h) (t : Place)
    {s : State} (hs : s.mem.wf = true) : (h t s).mem.wf = true := by
  cases mn <;> cases hk
  case sta | stx | sty | sax => exact opWrite_wf t _ s hs
  case asl | lsr | rol | ror | inc | dec => exact modifying_wf _ t s hs
  case slo | rla | sre | rra | dcp | isc => exact composed_wf (modifying_wf _) (reading_mem fun _ _ => rfl) t s hs

theorem mem_wf_of_implied {mn : Mnemonic} {h : State → State} (hk : kindOf mn = .implied h) {s : State}
    (hs : s.mem.wf = true) : (h s).mem.wf = true := by
  cases mn <;> cases hk
  case pha | php => exact push_wf _ s hs
  case pla | plp =>
    have hpop : (pop s).2.mem.wf = true := by rwa [pop_mem]
    exact hpop
  all_goals exact hs

theorem mem_wf_of_jump {mn : Mnemonic} {h : Word → State → Next × State} (hk : kindOf mn = .jump h) (t : Word)
    {s : State} (hs : s.mem.wf = true) : (h t s).2.mem.wf = true := by
  cases mn <;> cases hk
  case jmp => exact hs
  case jsr => exact push16_wf _ s hs
  all_goals exact (sameData_branch _ t s).mem ▸ hs

theorem mem_wf_of_leave {mn : Mnemonic} {h : Unit → State → Next × State} (hk : kindOf mn = .leave h) {s : State}
    (hs : s.mem.wf = true) : (h () s).2.mem.wf = true := by
  cases mn <;> cases hk
  case rts => rwa [handleRts, pop16_mem]
  case brk => exact enterHandler_wf _ _ s hs
  case rti => simpa [handleRti, returnFromInterrupt_spec] using hs

/-- Every handler keeps memory's canonical form (R60, R76). -/
theorem Ran.mem_wf {mn : Mnemonic} {f : Form} {s t : State} (h : Ran mn f s t) (hs : s.mem.wf = true) :
    t.mem.wf = true := by
  cases h with
  | read hk o => rwa [mem_of_read hk o s]
  | write hk t _ => exact mem_wf_of_write hk t hs
  | implied hk => exact mem_wf_of_implied hk hs
  | ignore _ => exact hs
  | jump hk t => exact mem_wf_of_jump hk t hs
  | leave hk => exact mem_wf_of_leave hk hs

/-- PLP and RTI store B = 0 and U = 1, whatever they pop (R39). -/
theorem Ran.loads_bu {mn : Mnemonic} {f : Form} {s t : State} (h : Ran mn f s t)
    (hmn : mn ∈ ([.plp, .rti] : List Mnemonic)) : t.p.b = false ∧ t.p.u = true := by
  simp only [List.mem_cons, List.not_mem_nil, or_false] at hmn
  rcases hmn with rfl | rfl
  · cases h with
    | implied hk => cases hk; simp [handlePlp]
    | _ hk => cases hk
  · cases h with
    | leave hk => cases hk; simp [handleRti, returnFromInterrupt_spec]
    | _ hk => cases hk

theorem Ran.coreInv {mn : Mnemonic} {f : Form} {s t : State} (h : Ran mn f s t) (hs : CoreInv s) : CoreInv t := by
  obtain ⟨hmem, hb, hu⟩ := hs
  refine ⟨h.mem_wf hmem, ?_⟩
  by_cases hmn : mn ∈ ([.plp, .rti] : List Mnemonic)
  · exact h.loads_bu hmn
  · obtain ⟨hbk, huk⟩ := h.framed.bu hmn
    exact ⟨hbk.trans hb, huk.trans hu⟩

theorem exec_coreInv {i : Instr} {s t : State} (h : exec i s = .next t) (hs : CoreInv s) : CoreInv t := by
  rcases exec_next_cases h with ⟨-, rfl⟩ | ⟨e, -, he, -, -⟩
  · exact hs
  · obtain ⟨w, v, hw, hran, hv⟩ := exec_ran he h
    exact hv.coreInv (hran.coreInv (hw.coreInv hs))

theorem runInstruction_coreInv {s t : State} (h : runInstruction s = .next t) (hs : CoreInv s) : CoreInv t := by
  rw [runInstruction_eq] at h
  exact exec_coreInv h ((sameButPort_fetch s).coreInv hs)

/-! ### Steps -/

theorem vector_coreInv (v : Word) {s : State} (hs : CoreInv s) : CoreInv (vector v s) := by
  obtain ⟨hmem, hb, hu⟩ := hs
  exact ⟨vector_wf v s hmem, by simpa using hb, by simpa using hu⟩

theorem serviceInterrupt_coreInv {s t : State} (h : serviceInterrupt s = some t) (hs : CoreInv s) : CoreInv t := by
  rcases serviceInterrupt_cases h with rfl | rfl
  · exact vector_coreInv _ hs
  · exact vector_coreInv _ hs

theorem step_coreInv {s t : State} (h : step s = .next t) (hs : CoreInv s) : CoreInv t := by
  have hbegin : CoreInv s.beginStep := hs
  rcases (step_next_cases h).2 with ⟨-, hi⟩ | ⟨u, -, hi, hx⟩ | hx
  · exact serviceInterrupt_coreInv hi hbegin
  · exact runInstruction_coreInv hx (serviceInterrupt_coreInv hi hbegin)
  · exact runInstruction_coreInv hx hbegin

/-! ### Host actions and runs -/

theorem hostReset_coreInv {s : State} (hs : CoreInv s) : CoreInv (hostReset s) := by
  obtain ⟨hmem, -, -⟩ := hs
  unfold CoreInv
  rw [hostReset_mem, hostReset_p]
  exact ⟨hmem, by decide, by decide⟩

theorem memoryChange_coreInv (a : Word) (v : Byte) {s : State} (hs : CoreInv s) : CoreInv (memoryChange a v s) := by
  obtain ⟨hmem, hbu⟩ := hs
  exact ⟨memoryChange_wf a v s hmem, hbu⟩

theorem act_coreInv {a : HostAction} {s t : State} (h : act a s = some t) (hs : CoreInv s) : CoreInv t := by
  cases a with
  | triggerNmi | triggerIrq | stallCycles | snapshot => cases h; exact hs
  | reset => cases h; exact hostReset_coreInv hs
  | memoryChange a v => cases h; exact memoryChange_coreInv a v hs
  | consumeStall k =>
    simp only [act, consumeStall, Option.ite_none_right_eq_some, Option.some.injEq] at h
    obtain ⟨-, rfl⟩ := h
    exact hs

/-- The only outcome of a Step that lets a run go on is a next state (R334). -/
theorem happen_step_eq_some {s t : State} (h : happen .step s = some t) : step s = .next t := by
  cases hs : step s with
  | next u => simpa [happen, hs] using h
  | fault r => simp [happen, hs] at h
  | refused r => simp [happen, hs] at h

theorem happen_coreInv {e : Event} {s t : State} (h : happen e s = some t) (hs : CoreInv s) : CoreInv t := by
  cases e with
  | step => exact step_coreInv (happen_step_eq_some h) hs
  | host a => exact act_coreInv h hs

theorem happenAll_coreInv {events : List Event} {s t : State} (h : happenAll events s = some t) (hs : CoreInv s) :
    CoreInv t := by
  induction events generalizing s with
  | nil => cases h; exact hs
  | cons e es ih =>
    cases he : happen e s with
    | none => simp [happenAll, he] at h
    | some u => exact ih (by simpa [happenAll, he] using h) (happen_coreInv he hs)

end Sys2Proof.Machine
end

section
/-! SUPPORT. RTI undoes the entry to a handler under PlainRAM: what the entry leaves on the stack, and what RTI takes
from it. -/

namespace Sys2Proof.Machine

/-! ### The stack -/

/-- Distinct stack pointers designate distinct addresses (R34, R69). -/
theorem stackAddr_ne {a b : Byte} (h : a ≠ b) : stackAddr a ≠ stackAddr b := by
  unfold stackAddr zext16
  bv_omega

theorem push_load_same (v : Byte) {s : State} (hram : s.params.memory = .plainRam) :
    (push v s).mem.load (stackAddr s.sp).toNat = v := by
  rw [push_mem, memWrite_mem, if_pos hram, Memory.load_store_same]

theorem push_load_other (v : Byte) {s : State} {sp : Byte} (h : sp ≠ s.sp) :
    (push v s).mem.load (stackAddr sp).toNat = s.mem.load (stackAddr sp).toNat := by
  rw [push_mem, memWrite_load_other _ _ _ _ (stackAddr_ne h)]

/-- The three bytes that the entry to a handler leaves on the stack (R72, R328). -/
theorem enterHandler_stack {s : State} (hram : s.params.memory = .plainRam) (ret : Word) (status : Byte) :
    (enterHandler ret status s).mem.load (stackAddr s.sp).toNat = hi ret ∧
    (enterHandler ret status s).mem.load (stackAddr (s.sp - 1)).toNat = lo ret ∧
    (enterHandler ret status s).mem.load (stackAddr (s.sp - 1 - 1)).toNat = status := by
  have hmem : (enterHandler ret status s).mem = (push status (push (lo ret) (push (hi ret) s))).mem := rfl
  have hsp1 : (push (hi ret) s).sp = s.sp - 1 := push_sp _ _
  have hsp2 : (push (lo ret) (push (hi ret) s)).sp = s.sp - 1 - 1 := by rw [push_sp, hsp1]
  rw [hmem]
  refine ⟨?_, ?_, ?_⟩
  · rw [push_load_other _ (by rw [hsp2]; bv_omega), push_load_other _ (by rw [hsp1]; bv_omega), push_load_same _ hram]
  · rw [push_load_other _ (by rw [hsp2]; bv_omega), ← hsp1, push_load_same _ (by rwa [push_params])]
  · rw [← hsp2, push_load_same _ (by rwa [push_params, push_params])]

/-! ### RTI -/

/-- What RTI leaves under PlainRAM: P and the two bytes of PC from the three stack bytes above SP, and both markers
clear (R273, R331). -/
theorem exec_rti_plainRam {s t : State} (hram : s.params.memory = .plainRam)
    (harch : s.params.pcUpdate = .architectural) (h : exec .rti s = .next t) :
    t.pc = wordOf (s.mem.load (stackAddr (s.sp + 1 + 1 + 1)).toNat) (s.mem.load (stackAddr (s.sp + 1 + 1)).toNat) ∧
    t.sp = s.sp + 1 + 1 + 1 ∧ t.p = loadedFlags (s.mem.load (stackAddr (s.sp + 1)).toNat) ∧
    t.a = s.a ∧ t.x = s.x ∧ t.y = s.y ∧ t.nmiRunning = false ∧ t.irqRunning = false := by
  have hrti : exec .rti s = run 0x40 (noOperand s) handleRti := rfl
  rw [hrti, run_eq] at h
  cases h
  simp [handleRti, returnFromInterrupt_spec, updatePc_transfer_pc, harch, pop16_spec, pop_spec, portByte_plainRam,
    hram, noOperand]

/-- RTI at `t`, where memory, SP and the parameters are as the entry to a handler from `s` left them, undoes the entry
(R272, R328, R331). -/
theorem rti_undoes_enterHandler {s t u : State} {ret : Word} {status : Byte} (hram : s.params.memory = .plainRam)
    (harch : s.params.pcUpdate = .architectural) (hmem : t.mem = (enterHandler ret status s).mem)
    (hsp : t.sp = (enterHandler ret status s).sp) (hparams : t.params = s.params) (h : exec .rti t = .next u) :
    u.pc = ret ∧ u.sp = s.sp ∧ u.p = loadedFlags status ∧ u.a = t.a ∧ u.x = t.x ∧ u.y = t.y ∧
    u.nmiRunning = false ∧ u.irqRunning = false := by
  obtain ⟨hhi, hlo, hstatus⟩ := enterHandler_stack hram ret status
  have hrti := exec_rti_plainRam (by rwa [hparams]) (by rwa [hparams]) h
  rwa [hmem, hsp, enterHandler_sp, BitVec.sub_add_cancel, BitVec.sub_add_cancel, BitVec.sub_add_cancel, hhi, hlo,
    hstatus, wordOf_hi_lo] at hrti

/-- RTI undoes the vectoring of a hardware interrupt (R328, R331). -/
theorem rti_undoes_vector {s u : State} {v : Word} (hinv : CoreInv s) (hram : s.params.memory = .plainRam)
    (harch : s.params.pcUpdate = .architectural) (h : exec .rti (vector v s) = .next u) :
    u.pc = s.pc ∧ u.sp = s.sp ∧ u.p = s.p ∧ u.a = s.a ∧ u.x = s.x ∧ u.y = s.y ∧
    u.nmiRunning = false ∧ u.irqRunning = false := by
  obtain ⟨-, hb, hu⟩ := hinv
  have hrti := rti_undoes_enterHandler (t := vector v s) (ret := s.pc) (status := hardwareStatus s.p) hram harch
    rfl rfl (vector_params v s) h
  rwa [loadedFlags_hardwareStatus _ hb hu, vector_a, vector_x, vector_y] at hrti

theorem serviceNmi_eq (s : State) :
    serviceNmi s = vector s.nmiAddress ((s.setNmiPending false).setNmiRunning true) := rfl

theorem serviceIrq_eq (s : State) :
    serviceIrq s = vector s.irqAddress ((s.setIrqPending false).setIrqRunning true) := rfl

/-- The check point services an interrupt exactly where one is serviceable (R323, R382). -/
theorem serviceInterrupt_isSome (s : State) : (serviceInterrupt s).isSome = serviceable s := by
  unfold serviceInterrupt serviceable
  cases s.nmiPending <;> cases s.irqPending <;> cases s.p.i <;> rfl

/-- An unfused Step where an interrupt is serviceable is its service (R117, R323). -/
theorem step_serviceable {s t : State} (hf : s.fault = none) (hserv : serviceable s = true)
    (hunfused : s.params.fusedInterruptStep = false) (h : step s = .next t) :
    t = serviceNmi s.beginStep ∨ t = serviceIrq s.beginStep := by
  have hsome : (serviceInterrupt s.beginStep).isSome = true := (serviceInterrupt_isSome s.beginStep).trans hserv
  obtain ⟨u, hi⟩ := Option.isSome_iff_exists.mp hsome
  have hparams : u.params = s.params := (serviceInterrupt_keepsFixed hi).params
  rw [step_of_running hf, stepRunning_some hi, hparams, hunfused] at h
  cases h
  exact serviceInterrupt_cases hi

end Sys2Proof.Machine
end

section
/-! SUPPORT. Every part of an instruction that neither pushes P nor writes D is blind to D: setting D before it is
setting D after it. -/

namespace Sys2Proof.Machine

/-- The state with its D flag as given. -/
def State.withD (d : Bool) (s : State) : State := { s with p := { s.p with d := d } }

@[simp] theorem withD_x (d : Bool) (s : State) : (s.withD d).x = s.x := rfl
@[simp] theorem withD_sp (d : Bool) (s : State) : (s.withD d).sp = s.sp := rfl
@[simp] theorem withD_params (d : Bool) (s : State) : (s.withD d).params = s.params := rfl

/-- A resolved operand with the D flag of its state as given. -/
def Resolved.withD {α : Type} (d : Bool) (r : Resolved α) : Resolved α := { r with state := r.state.withD d }

/-- Setting D before `f` is setting it after: `f` neither reads nor writes D. -/
def BlindToD (f : State → State) : Prop := ∀ d s, f (s.withD d) = (f s).withD d

/-- The same of an operation that answers a value too, which does not depend on D. -/
def AnswersBlindToD {β : Type} (f : State → β × State) : Prop :=
  ∀ d s, f (s.withD d) = ((f s).1, (f s).2.withD d)

theorem BlindToD.comp {f g : State → State} (hg : BlindToD g) (hf : BlindToD f) : BlindToD fun s => g (f s) :=
  fun d s => (congrArg g (hf d s)).trans (hg d (f s))

theorem AnswersBlindToD.snd {β : Type} {f : State → β × State} (hf : AnswersBlindToD f) :
    BlindToD fun s => (f s).2 :=
  fun d s => congrArg Prod.snd (hf d s)

/-- What uses an answer and the state after it is blind where the answer is. -/
theorem AnswersBlindToD.bind {β : Type} {f : State → β × State} {g : β → State → State} (hf : AnswersBlindToD f)
    (hg : ∀ b, BlindToD (g b)) : BlindToD fun s => g (f s).1 (f s).2 :=
  fun d s => (congrArg (fun q => g q.1 q.2) (hf d s)).trans (hg (f s).1 d (f s).2)

/-! ### The Memory Port and the stack -/

theorem memRead_blindToD (a : Word) : AnswersBlindToD (memRead a) := by
  intro d s
  unfold memRead State.afterRead
  rw [withD_params]
  split <;> rfl

theorem memWrite_blindToD (a : Word) (v : Byte) : BlindToD (memWrite a v) := by
  intro d s
  unfold memWrite
  rw [withD_params]
  split <;> rfl

theorem readWordBug_blindToD (a : Word) : AnswersBlindToD (readWordBug a) := by
  intro d s
  have hlow := memRead_blindToD a d s
  have hhigh := memRead_blindToD (wordOf (hi a) (lo a + 1)) d (memRead a s).2
  simp only [readWordBug, hlow, hhigh]

theorem push_blindToD (v : Byte) : BlindToD (push v) := by
  intro d s
  unfold push
  rw [withD_sp, memWrite_blindToD]
  rfl

theorem push16_blindToD (w : Word) : BlindToD (push16 w) := (push_blindToD (lo w)).comp (push_blindToD (hi w))

theorem pop_blindToD : AnswersBlindToD pop := fun d s =>
  memRead_blindToD (stackAddr (s.sp + 1)) d (s.setSp (s.sp + 1))

theorem pop16_blindToD : AnswersBlindToD pop16 := by
  intro d s
  have hlow := pop_blindToD d s
  have hhigh := pop_blindToD d (pop s).2
  simp only [pop16, hlow, hhigh]

/-! ### The resolver and the operand accessors -/

theorem resolveMem_withD (m : MemForm) (d : Bool) (s : State) :
    resolveMem m (s.withD d) = (resolveMem m s).withD d := by
  cases m with
  | indx b =>
    have hpointer := readWordBug_blindToD (wordOf 0 (b + s.x)) d s
    simp only [resolveMem, withD_x, hpointer]
    rfl
  | indy b =>
    have hpointer := readWordBug_blindToD (wordOf 0 b) d s
    simp only [resolveMem, hpointer]
    rfl
  | _ => rfl

theorem resolvedState_blindToD (f : Form) : BlindToD (resolvedState f) := by
  intro d s
  cases f with
  | mem m => simp only [resolvedState, resolveMem_withD, Resolved.withD]
  | ind addr => exact (readWordBug_blindToD addr).snd d s
  | _ => rfl

theorem crossOf_withD (f : Form) (d : Bool) (s : State) : crossOf f (s.withD d) = crossOf f s := by
  cases f with
  | mem m => simp only [crossOf, resolveMem_withD, Resolved.withD]
  | _ => rfl

theorem readForm_withD (f : Form) (d : Bool) (s : State) :
    readForm f (s.withD d) = (readForm f s).map (Resolved.withD d) := by
  cases f with
  | mem m => simp only [readForm, memOperand, resolveMem_withD]; rfl
  | _ => rfl

theorem writeForm_withD (f : Form) (d : Bool) (s : State) :
    writeForm f (s.withD d) = (writeForm f s).map (Resolved.withD d) := by
  cases f with
  | mem m => simp only [writeForm, memPlace, resolveMem_withD]; rfl
  | _ => rfl

theorem jumpForm_withD (f : Form) (d : Bool) (s : State) :
    jumpForm f (s.withD d) = (jumpForm f s).map (Resolved.withD d) := by
  cases f with
  | mem m => cases m <;> rfl
  | ind addr => simp only [jumpForm, indTarget, readWordBug_blindToD addr d s]; rfl
  | _ => rfl

theorem opRead_blindToD (o : Operand) : AnswersBlindToD (opRead o) := by
  intro d s
  rcases o with v | t
  · rfl
  · cases t with
    | acc => rfl
    | mem ea => exact memRead_blindToD ea d s

theorem opWrite_blindToD (t : Place) (v : Byte) : BlindToD (opWrite t v) := by
  cases t with
  | acc => exact fun _ _ => rfl
  | mem ea => exact memWrite_blindToD ea v

theorem reading_blindToD {f : Byte → State → State} (hf : ∀ m, BlindToD (f m)) (o : Operand) :
    BlindToD (reading f o) :=
  (opRead_blindToD o).bind hf

/-- A flag computation of 42_alu.md's that neither reads nor writes D (R180). -/
def FlagsBlindToD (f : Byte → Flags → Byte × Flags) : Prop :=
  ∀ d v p, f v { p with d := d } = ((f v p).1, { (f v p).2 with d := d })

theorem modifying_blindToD {f : Byte → Flags → Byte × Flags} (hf : FlagsBlindToD f) (t : Place) :
    BlindToD (modifying f t) := by
  refine (opRead_blindToD (.place t)).bind (g := fun v s => opWrite t (f v s.p).1 (s.setP (f v s.p).2)) fun v d s => ?_
  change opWrite t (f v { s.p with d := d }).1 ((s.withD d).setP (f v { s.p with d := d }).2) = _
  rw [hf]
  exact opWrite_blindToD t _ d (s.setP (f v s.p).2)

theorem composed_blindToD {f : Place → State → State} {g : Operand → State → State} (hf : ∀ t, BlindToD (f t))
    (hg : ∀ o, BlindToD (g o)) (t : Place) : BlindToD (composed f g t) :=
  (hg (.place t)).comp (hf t)

/-! ### The handlers of each kind -/

/-- The mnemonics that push P or write D. -/
def usesD : List Mnemonic := [.php, .brk, .cld, .sed, .plp, .rti]

theorem blindToD_of_read {mn : Mnemonic} {h : Operand → State → State} (hk : kindOf mn = .read h) (o : Operand) :
    BlindToD (h o) := by
  cases mn <;> cases hk
  all_goals exact reading_blindToD (fun _ _ _ => rfl) o

theorem blindToD_of_write {mn : Mnemonic} {h : Place → State → State} (hk : kindOf mn = .write h) (t : Place) :
    BlindToD (h t) := by
  cases mn <;> cases hk
  case sta | stx | sty | sax => exact fun d s => opWrite_blindToD t _ d s
  case asl | lsr | rol | ror | inc | dec => exact modifying_blindToD (fun _ _ _ => rfl) t
  case slo | rla | sre | rra | dcp | isc =>
    exact composed_blindToD (modifying_blindToD fun _ _ _ => rfl) (reading_blindToD fun _ _ _ => rfl) t

theorem blindToD_of_implied {mn : Mnemonic} {h : State → State} (hk : kindOf mn = .implied h)
    (hmn : mn ∉ usesD) : BlindToD h := by
  cases mn <;> cases hk
  case php | cld | sed | plp => exact absurd (by decide) hmn
  case pha => exact fun d s => push_blindToD s.a d s
  case pla => exact pop_blindToD.bind (g := fun v s => (s.setA v).setP (setNZ v s.p)) fun _ _ _ => rfl
  all_goals exact fun _ _ => rfl

theorem branch_blindToD {cond : Flags → Bool} (hcond : ∀ d p, cond { p with d := d } = cond p) (t : Word) :
    AnswersBlindToD (branch cond t) := by
  intro d s
  unfold branch
  rw [show cond (s.withD d).p = cond s.p from hcond d s.p]
  split <;> rfl

theorem blindToD_of_jump {mn : Mnemonic} {h : Word → State → Next × State} (hk : kindOf mn = .jump h) (t : Word) :
    AnswersBlindToD (h t) := by
  cases mn <;> cases hk
  case jmp => exact fun _ _ => rfl
  case jsr => exact fun d s => congrArg (Prod.mk _) (push16_blindToD (s.pc + 2) d s)
  all_goals exact branch_blindToD (fun _ _ => rfl) t

theorem blindToD_of_leave {mn : Mnemonic} {h : Unit → State → Next × State} (hk : kindOf mn = .leave h)
    (hmn : mn ∉ usesD) : AnswersBlindToD (h ()) := by
  cases mn <;> cases hk
  case brk | rti => exact absurd (by decide) hmn
  case rts =>
    intro d s
    simp only [handleRts, pop16_blindToD d s]

/-! ### The instruction -/

theorem updatePc_blindToD (op : Byte) (n : Next) : BlindToD (updatePc op n) := by
  intro d s
  unfold updatePc
  rw [withD_params]
  cases n <;> cases s.params.pcUpdate <;> rfl

/-- The part of a Step after decode (R117), for a handler that is blind to D. -/
theorem run_withD {α : Type} {op : Byte} {r : Resolved α} {h : α → State → Next × State} {t : State} (d : Bool)
    (hh : AnswersBlindToD (h r.operand)) (ht : run op r h = .next t) : run op (r.withD d) h = .next (t.withD d) := by
  have hhandler := hh d (account op r.cross r.state)
  rw [run_eq] at ht
  cases ht
  rw [← updatePc_blindToD, run_eq]
  change Host.Outcome.next (updatePc op (h r.operand ((account op r.cross r.state).withD d)).1
    (h r.operand ((account op r.cross r.state).withD d)).2) = _
  rw [hhandler]

theorem runSeq_withD {α : Type} {op : Byte} {r : Resolved α} {h : α → State → State} {t : State} (d : Bool)
    (hh : BlindToD (h r.operand)) (ht : runSeq op r h = .next t) : runSeq op (r.withD d) h = .next (t.withD d) :=
  run_withD d (fun d s => congrArg (Prod.mk _) (hh d s)) ht

/-- Six opcodes push P or write D. -/
theorem opcode_of_usesD : ∀ op : Byte, (∃ mn ∈ usesD, (opcodeTable op).map Entry.instr = some mn) →
    op ∈ ([0x08, 0x00, 0xD8, 0xF8, 0x28, 0x40] : List Byte) :=
  forall_byte_of_nibbles (by decide)

/-- An instruction that neither pushes P nor writes D does with D set what it does with D clear. -/
theorem exec_withD {i : Instr} {e : Entry} {s t : State} (he : i.entry = some e) (hmn : e.instr ∉ usesD) (d : Bool)
    (h : exec i s = .next t) : exec i (s.withD d) = .next (t.withD d) := by
  rcases exec_entry (s := s) he with ⟨f, r, hk, hr, hx⟩ | ⟨f, r, hk, hr, hx⟩ | ⟨f, hk, -, hx⟩ | ⟨hk, hx⟩ |
    ⟨f, r, hk, hr, hx⟩ | ⟨f, hk, -, hx⟩ <;> rw [hx] at h
  · obtain ⟨r', hr', hx'⟩ := exec_read (s := s.withD d) he hk
    rw [readForm_withD, hr] at hr'
    cases hr'
    rw [hx']
    exact runSeq_withD d (blindToD_of_read hk _) h
  · obtain ⟨r', hr', hx'⟩ := exec_write (s := s.withD d) he hk
    rw [writeForm_withD, hr] at hr'
    cases hr'
    rw [hx']
    exact runSeq_withD d (blindToD_of_write hk _) h
  · rw [(exec_implied (s := s.withD d) he hk).2]
    exact runSeq_withD (r := noOperand s) d (blindToD_of_implied hk hmn) h
  · rw [exec_ignore (s := s.withD d) he hk, crossOf_withD, resolvedState_blindToD]
    exact run_withD (r := ⟨(), crossOf i.form s, resolvedState i.form s⟩) (h := fun _ u => (.sequential, u)) d
      (fun _ _ => rfl) h
  · obtain ⟨r', hr', hx'⟩ := exec_jump (s := s.withD d) he hk
    rw [jumpForm_withD, hr] at hr'
    cases hr'
    rw [hx']
    exact run_withD d (blindToD_of_jump hk _) h
  · rw [(exec_leave (s := s.withD d) he hk).2]
    exact run_withD (r := noOperand s) d (blindToD_of_leave hk hmn) h

end Sys2Proof.Machine
end

section
/-! SUPPORT. The obligations of spec/10_state.md that are settled: O52, O53, O32, O36, O37, O46, O47 and O59. -/

namespace Sys2Proof.Machine

/-- Settles O52: each part of a Step keeps the invariant. -/
theorem stepKeepsTheInvariant : Obligations.StepKeepsTheInvariant := fun _ _ hs h => step_coreInv h hs

/-- Settles O53, by induction on the events. -/
theorem everyRunKeepsTheInvariant : Obligations.EveryRunKeepsTheInvariant := fun _ _ _ hs h => happenAll_coreInv h hs

/-- Settles O32: RTI undoes BRK's entry, and the pushed status byte loads back as P. -/
theorem brkThenRtiResumes : Obligations.BrkThenRtiResumes := by
  intro s t u hram harch ⟨_, hb, hu⟩ hbrk hrti
  have hexec : exec .brk s = run 0x00 (noOperand s) handleBrk := rfl
  rw [hexec, run_eq] at hbrk
  cases hbrk
  obtain ⟨hpc, hsp, hp, -⟩ := rti_undoes_enterHandler (s := account 0x00 false s) (ret := s.pc + 2)
    (status := softwareStatus s.p) hram harch (updatePc_mem ..) (updatePc_sp ..) (by simp [handleBrk, noOperand]) hrti
  rw [loadedFlags_softwareStatus _ hb hu] at hp
  exact ⟨hpc, hsp, hp⟩

/-- Settles O36: a mapped instruction changes no more than its handler does, and only a shift or a rotate has the form
`A`. -/
theorem registerFrame : Obligations.RegisterFrame := by
  intro i s t mn hmn h
  obtain ⟨e, he, rfl⟩ := Option.map_eq_some_iff.mp hmn
  have hframe := exec_framed he h
  have hdisjoint : ∀ mn ∈ shiftsAndRotates, mn ∉ writersOfA := by decide
  refine ⟨fun hwriter => ?_, fun hshift hform => hframe.a (hdisjoint e.instr hshift) hform, hframe.x, hframe.y,
    hframe.sp⟩
  have hneither : e.instr ∉ writersOfA ++ shiftsAndRotates := hwriter
  obtain ⟨hother, hshift⟩ := not_or.mp (mt List.mem_append.mpr hneither)
  exact hframe.a hother fun hacc => hshift (mem_shiftsAndRotates_of_acc he hacc)

/-- Settles O37: a mapped instruction changes no more flags than its handler does. -/
theorem flagFrame : Obligations.FlagFrame := by
  intro i s t mn hmn h
  obtain ⟨e, he, rfl⟩ := Option.map_eq_some_iff.mp hmn
  have hframe := exec_framed he h
  exact ⟨hframe.c, hframe.zn, hframe.i, hframe.d, hframe.bu, hframe.v⟩

/-- Settles O46: a Step is `stepRunning` where no fault is recorded, and every part of that answers. -/
theorem stepStopsOnlyOnceFaulted : Obligations.StepStopsOnlyOnceFaulted := by
  refine ⟨fun s e hf => ?_, fun _ => step_answers, exec_answers, hostReset_fault⟩
  have hstep := step_of_fault hf
  exact ⟨hstep, by simp only [happen, hstep]⟩

/-- Settles O47: RTI undoes the vectoring of the NMI or the IRQ that the Step serviced. -/
theorem interruptThenRtiResumes : Obligations.InterruptThenRtiResumes := by
  intro s t u hinv hf hserv hram harch hunfused hstep hrti
  rcases step_serviceable hf hserv hunfused hstep with rfl | rfl
  · rw [serviceNmi_eq] at hrti
    exact rti_undoes_vector (s := (s.beginStep.setNmiPending false).setNmiRunning true) hinv hram harch hrti
  · rw [serviceIrq_eq] at hrti
    exact rti_undoes_vector (s := (s.beginStep.setIrqPending false).setIrqRunning true) hinv hram harch hrti

/-- Settles O59: every handler but those that push P or write D is blind to D. -/
theorem decimalFlagIsReadByNothing : Obligations.DecimalFlagIsReadByNothing := by
  intro i s t d hop h
  rcases exec_next_cases h with ⟨he, rfl⟩ | ⟨e, -, he, -, -⟩
  · exact exec_unmapped he
  · have hmn : e.instr ∉ usesD := fun hmem =>
      hop (opcode_of_usesD i.opcode ⟨e.instr, hmem, Option.map_eq_some_iff.mpr ⟨e, he, rfl⟩⟩)
    exact exec_withD he hmn d h

end Sys2Proof.Machine
end

section
/-! SUPPORT. The byte array byte by byte (`State.byteAt`) under the Memory Port and the stack engine (spec/20_memory.md
R61, R62, R65, R69 to R72, R76). -/

namespace Sys2Proof.Machine

/-! ### The Memory Port -/

theorem byteAt_of_mem {s t : State} (h : t.mem = s.mem) (a : Word) : t.byteAt a = s.byteAt a :=
  congrArg (Memory.load · a.toNat) h

theorem memWrite_byteAt_other {a b : Word} (h : b ≠ a) (v : Byte) (s : State) :
    (memWrite a v s).byteAt b = s.byteAt b :=
  memWrite_load_other a b v s h

/-- Under `PlainRAM` a byte of the array is the one written, or the one before (R76). -/
theorem memWrite_byteAt {s : State} (hram : s.params.memory = .plainRam) (a b : Word) (v : Byte) :
    (memWrite a v s).byteAt b = if b = a then v else s.byteAt b := by
  unfold State.byteAt
  rw [memWrite_mem, if_pos hram, Memory.load_store]
  simp only [BitVec.toNat_inj]

theorem portByte_eq_byteAt {s : State} (hram : s.params.memory = .plainRam) (a : Word) : s.portByte a = s.byteAt a :=
  portByte_plainRam s a hram

theorem afterRead_portByte {s : State} (hram : s.params.memory = .plainRam) (a b : Word) :
    (s.afterRead a).portByte b = s.byteAt b := by
  rw [portByte_eq_byteAt (by rwa [afterRead_params]), byteAt_of_mem (afterRead_mem s a)]

/-! ### The wrap-bug reader -/

theorem pageNext_eq_add_one {a : Word} (h : lo a ≠ 0xFF) : wordOf (hi a) (lo a + 1) = a + 1 := by
  have hlo := lo_toNat a
  apply BitVec.eq_of_toNat_eq
  rw [wordOf_toNat, hi_toNat]
  bv_omega

theorem pageNext_eq_pageStart {a : Word} (h : lo a = 0xFF) : wordOf (hi a) (lo a + 1) = a - 0xFF := by
  have hlo := lo_toNat a
  apply BitVec.eq_of_toNat_eq
  rw [wordOf_toNat, hi_toNat]
  bv_omega

/-! ### The stack -/

theorem stackAddr_toNat (sp : Byte) : (stackAddr sp).toNat = 256 + sp.toNat := by
  unfold stackAddr zext16
  bv_omega

/-- No stack pointer designates an address outside page one (R69, R72). -/
theorem ne_stackAddr_of_outside {a : Word} (h : a.toNat < 0x0100 ∨ 0x01FF < a.toNat) (sp : Byte) :
    a ≠ stackAddr sp := by
  rintro rfl
  rw [stackAddr_toNat] at h
  omega

theorem push_byteAt_other {a : Word} {s : State} (h : a ≠ stackAddr s.sp) (v : Byte) :
    (push v s).byteAt a = s.byteAt a := by
  rw [byteAt_of_mem (push_mem v s), memWrite_byteAt_other h]

theorem push16_byteAt_other {a : Word} {s : State} (h₀ : a ≠ stackAddr s.sp) (h₁ : a ≠ stackAddr (s.sp - 1))
    (w : Word) : (push16 w s).byteAt a = s.byteAt a :=
  (push_byteAt_other (s := push (hi w) s) (by rwa [push_sp]) (lo w)).trans (push_byteAt_other h₀ (hi w))

theorem enterHandler_byteAt_other {a : Word} {s : State} (h₀ : a ≠ stackAddr s.sp) (h₁ : a ≠ stackAddr (s.sp - 1))
    (h₂ : a ≠ stackAddr (s.sp - 2)) (ret : Word) (status : Byte) :
    (enterHandler ret status s).byteAt a = s.byteAt a := by
  have hsp : (push16 ret s).sp = s.sp - 2 := by rw [push16_sp]; bv_omega
  exact (push_byteAt_other (s := push16 ret s) (by rwa [hsp]) status).trans (push16_byteAt_other h₀ h₁ ret)

/-- Push16 puts the high byte at $0100+SP and the low byte one below, modulo 256 (R71, R72). -/
theorem push16_byteAt {s : State} (hram : s.params.memory = .plainRam) (w : Word) :
    (push16 w s).byteAt (stackAddr s.sp) = hi w ∧ (push16 w s).byteAt (stackAddr (s.sp - 1)) = lo w := by
  have hsp : (push (hi w) s).sp = s.sp - 1 := push_sp _ _
  constructor
  · exact (push_load_other (lo w) (by rw [hsp]; bv_omega)).trans (push_load_same (hi w) hram)
  · rw [← hsp]
    exact push_load_same (lo w) (by rwa [push_params])

/-- Pop16 takes the two bytes above SP, the low one first (R71). -/
theorem pop16_plainRam {s : State} (hram : s.params.memory = .plainRam) :
    (pop16 s).1 = wordOf (s.byteAt (stackAddr (s.sp + 1 + 1))) (s.byteAt (stackAddr (s.sp + 1))) := by
  simp [pop16_spec, pop_spec, portByte_plainRam, hram, State.byteAt]

/-- Pop16 at `t`, where memory, SP and the parameters are as Push16 at `s` left them, undoes the push (R71). -/
theorem pop16_undoes_push16 {s t : State} {w : Word} (hram : s.params.memory = .plainRam)
    (hmem : t.mem = (push16 w s).mem) (hsp : t.sp = (push16 w s).sp) (hparams : t.params = s.params) :
    (pop16 t).1 = w ∧ (pop16 t).2.sp = s.sp := by
  obtain ⟨hhi, hlo⟩ := push16_byteAt hram w
  rw [push16_sp] at hsp
  constructor
  · rw [pop16_plainRam (by rwa [hparams]), hsp, byteAt_of_mem hmem, byteAt_of_mem hmem, BitVec.sub_add_cancel,
      BitVec.sub_add_cancel, hhi, hlo, wordOf_hi_lo]
  · rw [pop16_sp, hsp, BitVec.sub_add_cancel, BitVec.sub_add_cancel]

/-- Any number of pushes moves SP down by their number, modulo 256 (R69, R72). -/
theorem pushes_sp (vs : List Byte) (s : State) :
    (vs.foldl (fun u v => push v u) s).sp = s.sp - BitVec.ofNat 8 vs.length := by
  induction vs generalizing s with
  | nil => simp
  | cons v vs ih =>
    rw [List.foldl_cons, ih, push_sp, List.length_cons]
    bv_omega

/-- No number of pushes writes outside page one (R69, R72). -/
theorem pushes_byteAt_outside {a : Word} (h : a.toNat < 0x0100 ∨ 0x01FF < a.toNat) (vs : List Byte) (s : State) :
    (vs.foldl (fun u v => push v u) s).byteAt a = s.byteAt a := by
  induction vs generalizing s with
  | nil => rfl
  | cons v vs ih => exact (ih (push v s)).trans (push_byteAt_other (ne_stackAddr_of_outside h s.sp) v)

end Sys2Proof.Machine
end

section
/-! SUPPORT. What each instruction leaves of memory, byte by byte, in one lemma, `exec_byteAt`: every byte but the one at
the effective address of a store and those it pushes. -/

namespace Sys2Proof.Machine

/-- The addresses an instruction pushes to, with SP as it is before it (R69, R71, R240, R260, R261, R272). -/
def pushedAddresses (mn : Mnemonic) (sp : Byte) : List Word :=
  match mn with
  | .pha | .php => [stackAddr sp]
  | .jsr => [stackAddr sp, stackAddr (sp - 1)]
  | .brk => [stackAddr sp, stackAddr (sp - 1), stackAddr (sp - 2)]
  | _ => []

/-! ### What a handler leaves of memory -/

theorem opWrite_byteAt_other {t : Place} {a : Word} (h : t ≠ .mem a) (v : Byte) (s : State) :
    (opWrite t v s).byteAt a = s.byteAt a := by
  cases t with
  | acc => rfl
  | mem ea => exact memWrite_byteAt_other (fun hea => h (congrArg Place.mem hea.symm)) v s

theorem modifying_byteAt_other {t : Place} {a : Word} (h : t ≠ .mem a) (f : Byte → Flags → Byte × Flags) (s : State) :
    (modifying f t s).byteAt a = s.byteAt a := by
  rw [modifying_eq, opWrite_byteAt_other h]
  exact byteAt_of_mem (opRead_mem (.place t) s) a

/-- A composed handler's second part only reads (R290). -/
theorem composed_byteAt_other {t : Place} {a : Word} (h : t ≠ .mem a) (f : Byte → Flags → Byte × Flags)
    {g : Operand → State → State} (hg : ∀ o s, (g o s).mem = s.mem) (s : State) :
    (composed (modifying f) g t s).byteAt a = s.byteAt a :=
  (byteAt_of_mem (hg _ _) a).trans (modifying_byteAt_other h f s)

theorem byteAt_of_write {mn : Mnemonic} {h : Place → State → State} (hk : kindOf mn = .write h) {t : Place} {a : Word}
    (ht : t ≠ .mem a) (s : State) : (h t s).byteAt a = s.byteAt a := by
  cases mn <;> cases hk
  case sta | stx | sty | sax => exact opWrite_byteAt_other ht _ s
  case asl | lsr | rol | ror | inc | dec => exact modifying_byteAt_other ht _ s
  case slo | rla | sre | rra | dcp | isc => exact composed_byteAt_other ht _ (reading_mem fun _ _ => rfl) s

theorem byteAt_of_implied {mn : Mnemonic} {h : State → State} (hk : kindOf mn = .implied h) {a : Word} {s : State}
    (ha : a ∉ pushedAddresses mn s.sp) : (h s).byteAt a = s.byteAt a := by
  cases mn <;> cases hk
  case pha | php => exact push_byteAt_other (by simpa [pushedAddresses] using ha) _
  case pla | plp => exact byteAt_of_mem (pop_mem s) a
  all_goals rfl

theorem byteAt_of_jump {mn : Mnemonic} {h : Word → State → Next × State} (hk : kindOf mn = .jump h) {a : Word}
    {s : State} (ha : a ∉ pushedAddresses mn s.sp) (t : Word) : (h t s).2.byteAt a = s.byteAt a := by
  cases mn <;> cases hk
  case jmp => rfl
  case jsr =>
    obtain ⟨h₀, h₁⟩ : a ≠ stackAddr s.sp ∧ a ≠ stackAddr (s.sp - 1) := by simpa [pushedAddresses] using ha
    exact push16_byteAt_other h₀ h₁ _
  all_goals exact byteAt_of_mem (sameData_branch _ t s).mem a

theorem byteAt_of_leave {mn : Mnemonic} {h : Unit → State → Next × State} (hk : kindOf mn = .leave h) {a : Word}
    {s : State} (ha : a ∉ pushedAddresses mn s.sp) : (h () s).2.byteAt a = s.byteAt a := by
  cases mn <;> cases hk
  case rts => exact byteAt_of_mem (pop16_mem s) a
  case brk =>
    obtain ⟨h₀, h₁, h₂⟩ : a ≠ stackAddr s.sp ∧ a ≠ stackAddr (s.sp - 1) ∧ a ≠ stackAddr (s.sp - 2) := by
      simpa [pushedAddresses] using ha
    exact enterHandler_byteAt_other h₀ h₁ h₂ _ _
  case rti =>
    have hmem : (handleRti () s).2.mem = s.mem := by simp [handleRti, returnFromInterrupt_spec]
    exact byteAt_of_mem hmem a

/-! ### What an instruction leaves of memory -/

/-- The part of a Step after decode (R117): only the handler writes memory, from the SP before the instruction. -/
theorem run_byteAt {α : Type} {op : Byte} {r : Resolved α} {h : α → State → Next × State} {s t : State} {a : Word}
    (hr : SameButPort s r.state) (hh : ∀ w : State, w.sp = s.sp → (h r.operand w).2.byteAt a = w.byteAt a)
    (ht : run op r h = .next t) : t.byteAt a = s.byteAt a := by
  have hdata : SameData s (account op r.cross r.state) := sameData_account hr op r.cross
  rw [run_eq] at ht
  cases ht
  rw [byteAt_of_mem (updatePc_mem ..), hh _ hdata.sp, byteAt_of_mem hdata.mem]

/-- The place a form designates is memory only at its effective address (R109). -/
theorem storeAddress_of_writeForm {f : Form} {s : State} {r : Resolved Place} {a : Word}
    (h : writeForm f s = some r) (hr : r.operand = .mem a) : storeAddress f s = some a := by
  cases f <;> cases h
  case acc => cases hr
  case mem m =>
    cases hr
    rfl

/-- A mapped instruction keeps every byte but the one at the effective address, where its handler writes its operand,
and those it pushes. -/
theorem exec_byteAt {i : Instr} {e : Entry} {s t : State} {a : Word} (he : i.entry = some e)
    (h : exec i s = .next t) (hstore : ∀ g, kindOf e.instr = .write g → storeAddress i.form s ≠ some a)
    (hpush : a ∉ pushedAddresses e.instr s.sp) : t.byteAt a = s.byteAt a := by
  rcases exec_entry (s := s) he with ⟨f, r, hk, hr, hx⟩ | ⟨f, r, hk, hr, hx⟩ | ⟨f, hk, -, hx⟩ | ⟨-, hx⟩ |
    ⟨f, r, hk, hr, hx⟩ | ⟨f, hk, -, hx⟩ <;> rw [hx] at h
  · exact run_byteAt (sameButPort_of_readForm hr) (fun w _ => byteAt_of_mem (mem_of_read hk r.operand w) a) h
  · have hplace : r.operand ≠ .mem a := mt (storeAddress_of_writeForm hr) (hstore f hk)
    exact run_byteAt (sameButPort_of_writeForm hr) (fun w _ => byteAt_of_write hk hplace w) h
  · exact run_byteAt (r := noOperand s) (h := fun _ u => (.sequential, f u)) (SameButPort.refl s)
      (fun w hsp => byteAt_of_implied hk (hsp ▸ hpush)) h
  · exact run_byteAt (r := ⟨(), crossOf i.form s, resolvedState i.form s⟩) (h := fun _ u => (.sequential, u))
      (sameButPort_resolvedState i.form s) (fun _ _ => rfl) h
  · exact run_byteAt (sameButPort_of_jumpForm hr) (fun w hsp => byteAt_of_jump hk (hsp ▸ hpush) r.operand) h
  · exact run_byteAt (SameButPort.refl s) (fun w hsp => byteAt_of_leave hk (hsp ▸ hpush)) h

/-- The mnemonics that push. -/
def pushers : List Mnemonic := [.pha, .php, .jsr, .brk]

/-- The mnemonics that store to memory in every form. -/
def storers : List Mnemonic := [.sta, .stx, .sty, .sax, .inc, .dec, .slo, .rla, .sre, .rra, .dcp, .isc]

theorem pushedAddresses_of_not_mem_pushers {mn : Mnemonic} (h : mn ∉ pushers) (sp : Byte) :
    pushedAddresses mn sp = [] := by
  cases mn
  case pha | php | jsr | brk => exact absurd (by decide) h
  all_goals rfl

/-- Whatever is pushed lies in page one (R69, R72). -/
theorem not_mem_pushedAddresses_of_outside {a : Word} (h : a.toNat < 0x0100 ∨ 0x01FF < a.toNat) (mn : Mnemonic)
    (sp : Byte) : a ∉ pushedAddresses mn sp := by
  unfold pushedAddresses
  split <;> simp [ne_stackAddr_of_outside h]

/-- A handler of a writable operand that does not always store is a shift's or a rotate's. -/
theorem mem_shiftsAndRotates_of_write {mn : Mnemonic} {g : Place → State → State} (hk : kindOf mn = .write g)
    (h : mn ∉ storers) : mn ∈ shiftsAndRotates := by
  cases mn <;> cases hk
  case asl | lsr | rol | ror => decide
  all_goals exact absurd (by decide) h

/-- The handler of an instruction that pushes does not write its operand. -/
theorem kindOf_ne_write_of_mem_pushers {mn : Mnemonic} (h : mn ∈ pushers) (g : Place → State → State) :
    kindOf mn ≠ .write g := by
  intro hk
  cases mn <;> cases hk
  all_goals exact absurd h (by decide)

/-- An instruction that pushes keeps every byte but those it pushes. -/
theorem exec_byteAt_of_pushes {i : Instr} {s t : State} {a : Word} {op : Byte} {mn : Mnemonic}
    (h : exec i s = .next t) (hop : i.opcode = op) (hentry : (opcodeTable op).map Entry.instr = some mn)
    (hmn : mn ∈ pushers) (ha : a ∉ pushedAddresses mn s.sp) : t.byteAt a = s.byteAt a := by
  subst hop
  obtain ⟨e, he, rfl⟩ := Option.map_eq_some_iff.mp hentry
  exact exec_byteAt he h (fun g hk => absurd hk (kindOf_ne_write_of_mem_pushers hmn g)) ha

/-! ### JSR and RTS -/

/-- JSR leaves the data as its push does (R240). -/
theorem exec_jsr_next {addr : Word} {s t : State} (h : exec (.jsr addr) s = .next t) :
    SameData (push16 (s.pc + 2) (account 0x20 false s)) t ∧ t.params = s.params := by
  have hexec : exec (.jsr addr) s = run 0x20 (absTarget addr s) handleJsr := rfl
  rw [hexec, run_eq] at h
  cases h
  exact ⟨sameData_updatePc .., by simp [handleJsr, absTarget]⟩

/-- RTS goes to the popped address plus one, and leaves the data as its pop does (R241). -/
theorem exec_rts_next {s t : State} (harch : s.params.pcUpdate = .architectural) (h : exec .rts s = .next t) :
    t.pc = (pop16 (account 0x60 false s)).1 + 1 ∧ SameData (pop16 (account 0x60 false s)).2 t := by
  have hexec : exec .rts s = run 0x60 (noOperand s) handleRts := rfl
  rw [hexec, run_eq] at h
  cases h
  exact ⟨by simp [handleRts, noOperand, updatePc_transfer_pc, harch], sameData_updatePc ..⟩

end Sys2Proof.Machine
end

section
/-! SUPPORT. The fetch (spec/20_memory.md R78, spec/30_encoding.md R115) as port reads of consecutive bytes from PC, and
the instruction it answers as what those bytes decode to. -/

namespace Sys2Proof.Machine

/-- The state after the first `n` reads of a fetch. -/
def fetchReads (s : State) : Nat → State
  | 0 => s
  | n + 1 => (fetchReads s n).afterRead (s.pc + BitVec.ofNat 16 n)

/-- The byte the port answers to the read of a fetch at PC + `k`. -/
def fetchByte (s : State) (k : Nat) : Byte := (fetchReads s k).portByte (s.pc + BitVec.ofNat 16 k)

theorem sameButPort_fetchReads (s : State) (n : Nat) : SameButPort s (fetchReads s n) := by
  induction n with
  | zero => exact SameButPort.refl s
  | succ n ih => exact ih.trans (sameButPort_afterRead _ _)

theorem fetchReads_draws (s : State) (n : Nat) :
    (fetchReads s n).draws = if s.params.memory = .hostOracle then s.draws + n else s.draws := by
  induction n with
  | zero => simp [fetchReads]
  | succ n ih =>
    rw [fetchReads, afterRead_draws, (sameButPort_fetchReads s n).params, ih]
    split <;> rfl

theorem fetchReads_portCalls (s : State) (n : Nat) :
    (fetchReads s n).portCalls =
      s.portCalls ++ (List.range n).map fun k => .read (s.pc + BitVec.ofNat 16 k) (fetchByte s k) := by
  induction n with
  | zero => simp [fetchReads]
  | succ n ih =>
    rw [fetchReads, afterRead_portCalls, ih, List.range_succ, List.map_append, List.append_assoc]
    rfl

theorem fetchByte_plainRam {s : State} (hram : s.params.memory = .plainRam) (k : Nat) :
    fetchByte s k = s.byteAt (s.pc + BitVec.ofNat 16 k) := by
  have hreads := sameButPort_fetchReads s k
  rw [fetchByte, portByte_eq_byteAt (by rwa [hreads.params]), byteAt_of_mem hreads.mem]

theorem fetchByte_hostOracle {s : State} (horacle : s.params.memory = .hostOracle) (k : Nat) :
    fetchByte s k = Config.portDraw (s.draws + k) := by
  rw [fetchByte, portByte_hostOracle _ _ (by rwa [(sameButPort_fetchReads s k).params]), fetchReads_draws,
    if_pos horacle]

/-- The fetch is the instruction that the bytes read decode to, after one read for its opcode and one for each operand
byte; BRK's signature byte is not read (R78, R90, R115). -/
theorem fetch_of_decode {s : State} {i : Instr} {rest : List Byte}
    (h : decode [fetchByte s 0, fetchByte s 1, fetchByte s 2] = .ok (i, rest)) :
    fetch s = (i, fetchReads s (1 + i.form.operandBytes.length)) := by
  have hshape := shapeRight (fetchByte s 0)
  have hop : s.portByte s.pc = fetchByte s 0 := by simp [fetchByte, fetchReads]
  have hreads₁ : s.afterRead s.pc = fetchReads s 1 := by simp [fetchReads]
  have hpc₁ : (fetchReads s 1).pc = s.pc := (sameButPort_fetchReads s 1).pc
  have hpc₂ : (fetchReads s 2).pc = s.pc := (sameButPort_fetchReads s 2).pc
  have hbyte₁ : (fetchReads s 1).portByte (s.pc + 1) = fetchByte s 1 := rfl
  have hbyte₂ : (fetchReads s 2).portByte (s.pc + 2) = fetchByte s 2 := rfl
  have hreads₂ : (fetchReads s 1).afterRead (s.pc + 1) = fetchReads s 2 := rfl
  have hreads₃ : (fetchReads s 2).afterRead (s.pc + 2) = fetchReads s 3 := rfl
  unfold ShapeRight at hshape
  unfold decode at h
  unfold fetch
  simp only [memRead_fst, memRead_snd, hop, hreads₁, hpc₁, hbyte₁, hreads₂, hpc₂, hbyte₂, hreads₃]
  cases hd : decodeOpcode (fetchByte s 0) with
  | bare j =>
    simp only [hd] at hshape h ⊢
    have hj : j = i := by split at h <;> cases h <;> rfl
    rw [← hj, hshape.2]
    rfl
  | byte f =>
    simp only [hd] at hshape h ⊢
    cases h
    rw [hshape.2]
    rfl
  | word f =>
    simp only [hd] at hshape h ⊢
    cases h
    rw [hshape.2]
    rfl

/-- Every instruction's row passes the checks of R114, and its operands are those of the row's mode: the constructor
alone fixes the opcode and the mode, whatever the operand bytes are. -/
theorem instr_wellFormed (i : Instr) : i.wellFormed = true := by
  unfold Instr.wellFormed Instr.entry
  cases i
  all_goals
    dsimp only [Instr.opcode, Instr.form]
    rfl

end Sys2Proof.Machine
end

section
/-! SUPPORT. The obligations of spec/20_memory.md that are settled: O26, O39, O40, O41, O49, O50, O51 and O7. -/

namespace Sys2Proof.Machine

/-- Settles O26: RTS pops the word that JSR pushed. -/
theorem subroutineReturns : Obligations.SubroutineReturns := by
  intro s t u addr hram harch hjsr hrts
  obtain ⟨hpushed, hparams⟩ := exec_jsr_next hjsr
  obtain ⟨hpc, hpopped⟩ := exec_rts_next (by rwa [hparams]) hrts
  obtain ⟨hword, hsp⟩ := pop16_undoes_push16 (s := account 0x20 false s) (t := account 0x60 false t) hram hpushed.mem
    hpushed.sp hparams
  refine ⟨?_, hpopped.sp.trans hsp, ?_, ?_, ?_, ?_⟩
  · rw [hpc, hword, BitVec.add_assoc]
    rfl
  · simp [hpopped.a, hpushed.a]
  · simp [hpopped.x, hpushed.x]
  · simp [hpopped.y, hpushed.y]
  · simp [hpopped.p, hpushed.p]

/-- Settles O39: such an instruction pushes nothing, and its form designates no memory where its handler writes. -/
theorem memoryFrameOfFormsThatStoreNothing : Obligations.MemoryFrameOfFormsThatStoreNothing := by
  intro i s t h hwriter hshift a
  rcases exec_next_cases h with ⟨-, rfl⟩ | ⟨e, -, he, -, -⟩
  · rfl
  have hmn : i.mnemonic = some e.instr := Option.map_eq_some_iff.mpr ⟨e, he, rfl⟩
  have hneither : e.instr ∉ storers ++ pushers := hwriter e.instr hmn
  obtain ⟨hstorer, hpusher⟩ := not_or.mp (mt List.mem_append.mpr hneither)
  refine exec_byteAt he h (fun g hk => ?_) (by simp [pushedAddresses_of_not_mem_pushers hpusher])
  rw [hshift e.instr hmn (mem_shiftsAndRotates_of_write hk hstorer)]
  exact nofun

/-- Settles O40: such an instruction pushes nothing. -/
theorem memoryFrameOfStores : Obligations.MemoryFrameOfStores := by
  intro i s t mn ea hmn h hstores hea a ha
  obtain ⟨e, he, rfl⟩ := Option.map_eq_some_iff.mp hmn
  have hdisjoint : ∀ mn ∈ storers ++ shiftsAndRotates, mn ∉ pushers := by decide
  refine exec_byteAt he h (fun _ _ => ?_)
    (by simp [pushedAddresses_of_not_mem_pushers (hdisjoint e.instr hstores)])
  rw [hea]
  exact fun hsame => ha (Option.some.inj hsame).symm

/-- Settles O41, with each instruction's pushed addresses, all of which lie in page one. -/
theorem memoryFrameOfPushes : Obligations.MemoryFrameOfPushes := by
  intro i s t a h
  refine ⟨fun hop h₀ => ?_, fun hop h₀ h₁ => ?_, fun hop h₀ h₁ h₂ => ?_, fun hop houtside => ?_⟩
  · have htable : ∀ op ∈ ([0x48, 0x08] : List Byte), ∃ mn ∈ ([.pha, .php] : List Mnemonic),
        (opcodeTable op).map Entry.instr = some mn := by decide
    obtain ⟨mn, hmn, hentry⟩ := htable i.opcode hop
    simp only [List.mem_cons, List.not_mem_nil, or_false] at hmn
    rcases hmn with rfl | rfl
    · exact exec_byteAt_of_pushes h rfl hentry (by decide) (by simpa [pushedAddresses] using h₀)
    · exact exec_byteAt_of_pushes h rfl hentry (by decide) (by simpa [pushedAddresses] using h₀)
  · exact exec_byteAt_of_pushes (mn := .jsr) h hop rfl (by decide) (by simpa [pushedAddresses] using ⟨h₀, h₁⟩)
  · exact exec_byteAt_of_pushes (mn := .brk) h hop rfl (by decide) (by simpa [pushedAddresses] using ⟨h₀, h₁, h₂⟩)
  · have htable : ∀ op ∈ ([0x48, 0x08, 0x20, 0x00] : List Byte), ∃ mn ∈ pushers,
        (opcodeTable op).map Entry.instr = some mn := by decide
    obtain ⟨mn, hmn, hentry⟩ := htable i.opcode hop
    exact exec_byteAt_of_pushes h rfl hentry hmn (not_mem_pushedAddresses_of_outside houtside mn s.sp)

/-- Settles O49. -/
theorem portReadsTheLatestWrite : Obligations.PortReadsTheLatestWrite := by
  refine fun s => ⟨fun hram a b v => ⟨?_, ?_, ?_⟩, fun horacle a b v => ⟨?_, ?_⟩⟩
  · rw [memRead_fst, memRead_fst, portByte_eq_byteAt (by rwa [memWrite_params]), portByte_eq_byteAt hram,
      memWrite_byteAt hram]
  · exact portByte_eq_byteAt hram b
  · exact afterRead_mem s b
  · rw [memRead_fst, portByte_hostOracle _ _ (by rwa [memWrite_params]), memWrite_draws]
  · rw [memRead_fst, memRead_snd, portByte_hostOracle _ _ (by rwa [afterRead_params]), afterRead_draws, if_pos horacle]

/-- Settles O50: the next address of the same page is the next address, or the start of the page. -/
theorem readWordBugStaysInThePage : Obligations.ReadWordBugStaysInThePage := by
  refine fun s a => ⟨fun _ hlo => ?_, fun hram hlo => ?_, s.portByte a,
    (s.afterRead a).portByte (wordOf (hi a) (lo a + 1)), rfl, ?_, fun hram => ⟨?_, ?_⟩⟩
  · rw [readWordBug_spec, readWord_spec, pageNext_eq_add_one hlo]
  · rw [readWordBug_spec, pageNext_eq_pageStart hlo, afterRead_portByte hram, portByte_eq_byteAt hram]
  · rw [readWordBug_spec, afterRead_portCalls, afterRead_portCalls, List.append_assoc]
    rfl
  · exact portByte_eq_byteAt hram a
  · exact afterRead_portByte hram a _

/-- Settles O51: the round trip, and two inductions on the pushes. -/
theorem stackWrapsAndRoundTrips : Obligations.StackWrapsAndRoundTrips := by
  refine ⟨fun s w hram => ?_, fun s vs hlen => ?_, fun s vs a ha => pushes_byteAt_outside ha vs s⟩
  · obtain ⟨hword, hsp⟩ := pop16_undoes_push16 (t := push16 w s) hram rfl rfl (push16_params w s)
    exact ⟨hword, hsp, push16_byteAt hram w⟩
  · rw [pushes_sp, hlen]
    exact BitVec.sub_zero s.sp

/-- Settles O7: the Step's fetch reads the bytes of the instruction they decode to. -/
theorem stepRunsTheDecodedInstruction : Obligations.StepRunsTheDecodedInstruction := by
  intro s i rest hf hserv answer n hdecode
  have hanswer : answer = fetchByte s.beginStep := by
    funext k
    cases hm : s.params.memory with
    | plainRam =>
      simp only [answer, hm]
      exact (fetchByte_plainRam (s := s.beginStep) hm k).symm
    | hostOracle =>
      simp only [answer, hm]
      exact (fetchByte_hostOracle (s := s.beginStep) hm k).symm
  rw [hanswer] at hdecode ⊢
  refine ⟨instr_wellFormed i, ?_⟩
  have hnone : serviceInterrupt s.beginStep = none := serviceInterrupt_none hserv
  have hreads := sameButPort_fetchReads s.beginStep n
  unfold SameButPort at hreads
  rw [fetchReads_draws, fetchReads_portCalls] at hreads
  rw [step_of_running hf, stepRunning_none hnone, runInstruction_eq, fetch_of_decode hdecode, hreads]
  rfl

end Sys2Proof.Machine
end

section
/-! SUPPORT. The encoder and the decoder undo each other (spec/30_encoding.md R90, R92, R111, R115): each in one lemma,
`decode_encode` and `decode_eq_ok`, over the three shapes of an instruction. -/

namespace Sys2Proof

/-- A shape begins an instruction that its operand bytes, whatever they are, complete. -/
inductive Shape.Begins : Shape → Instr → Prop
  | bare (i : Instr) : Begins (.bare i) i
  | byte (f : Byte → Instr) (b : Byte) : Begins (.byte f) (f b)
  | word (f : Word → Instr) (w : Word) : Begins (.word f) (f w)

/-- The opcode byte of an instruction begins that instruction (R111, R115). -/
theorem decodeOpcode_begins (i : Instr) : (decodeOpcode i.opcode).Begins i := by
  cases i
  all_goals
    dsimp only [Instr.opcode]
    constructor

theorem decodeOpcode_brk : decodeOpcode 0x00 = .bare .brk := rfl

/-- BRK alone has a signature byte (R90, R272). -/
theorem hasSignature_opcode_iff (i : Instr) : hasSignature i.opcode = true ↔ i = .brk := by
  constructor
  · intro h
    have hbegins := decodeOpcode_begins i
    rw [eq_of_beq h, decodeOpcode_brk] at hbegins
    cases hbegins
    rfl
  · rintro rfl
    rfl

theorem hasSignature_opcode_of_ne {i : Instr} (h : i ≠ .brk) : hasSignature i.opcode = false :=
  Bool.eq_false_iff.mpr (mt (hasSignature_opcode_iff i).mp h)

/-- The decoder undoes the encoder, whatever bytes follow. -/
theorem decode_encode (i : Instr) (rest : List Byte) : decode (encode i ++ rest) = .ok (i, rest) := by
  by_cases hbrk : i = .brk
  · subst hbrk
    rfl
  have hbegins := decodeOpcode_begins i
  have hshape := shapeRight i.opcode
  unfold ShapeRight at hshape
  simp only [encode, List.cons_append, decode, hasSignature_opcode_of_ne hbrk]
  generalize decodeOpcode i.opcode = shape at hbegins hshape
  cases hbegins with
  | bare => simp [hshape.2]
  | byte f b => simp [hshape.2]
  | word f w => simp [hshape.2]

/-- All that a list of bytes that decodes can be: the opcode byte, the operand bytes, BRK's signature byte, and the
rest. -/
theorem decode_eq_ok {bytes rest : List Byte} {i : Instr} (h : decode bytes = .ok (i, rest)) :
    ∃ signature, bytes = i.opcode :: (i.form.operandBytes ++ (signature ++ rest)) ∧
      signature.length = (hasSignature i.opcode).toNat := by
  obtain _ | ⟨op, tail⟩ := bytes
  · cases h
  have hshape := shapeRight op
  have hbrk : hasSignature op = true → decodeOpcode op = .bare .brk := fun hs => eq_of_beq hs ▸ decodeOpcode_brk
  unfold ShapeRight at hshape
  simp only [decode] at h
  cases hd : decodeOpcode op with
  | bare j =>
    simp only [hd] at h hshape
    split at h
    next hs =>
      split at h <;> cases h
      next signature => exact ⟨[signature], by simp [hshape], by simp [hshape, hs]⟩
    next hs =>
      cases h
      exact ⟨[], by simp [hshape], by simp [hshape, hs]⟩
  | byte f =>
    simp only [hd, reduceCtorEq, imp_false] at h hshape hbrk
    split at h <;> cases h
    exact ⟨[], by simp [hshape], by simp [hshape, hbrk]⟩
  | word f =>
    simp only [hd, reduceCtorEq, imp_false] at h hshape hbrk
    split at h <;> cases h
    exact ⟨[], by simp [hshape], by simp [hshape, hbrk]⟩

/-- The opcode of an instruction that decodes is the first byte (R115). -/
theorem opcode_of_decode {op : Byte} {tail rest : List Byte} {i : Instr} (h : decode (op :: tail) = .ok (i, rest)) :
    i.opcode = op := by
  obtain ⟨_, hbytes, -⟩ := decode_eq_ok h
  exact (List.cons.inj hbytes).1.symm

/-! ### The opcode table -/

/-- The bytes of an instruction, its signature byte apart, are as many as its mode has (R91, R93). -/
theorem operandBytes_length (f : Form) : f.operandBytes.length + 1 = f.mode.size := by
  cases f with
  | mem m => cases m <;> rfl
  | _ => rfl

/-- The row of an instruction has the mode of its operands (R93, R116). -/
theorem mode_of_entry {i : Instr} {e : Entry} (he : i.entry = some e) : e.mode = i.form.mode := by
  have hrow := Machine.instr_wellFormed i
  simp only [Instr.wellFormed, he, rowWellFormed, Bool.and_eq_true, beq_iff_eq] at hrow
  exact hrow.2

/-- The table has BRK at its signature-carrying byte alone (R90, R111). -/
theorem instr_eq_brk_iff : ∀ op : Byte, ∀ e ∈ opcodeTable op, e.instr = .brk ↔ hasSignature op = true :=
  Machine.forall_byte_of_nibbles (by decide)

/-- The table has no entry for exactly the 25 bytes of R112. -/
theorem opcodeTable_eq_none_iff (op : Byte) : opcodeTable op = none ↔ op ∈ unmappedBytes := by
  refine ⟨fun h => Machine.mem_unmappedBytes_of_none op (Option.isNone_iff_eq_none.mpr h), fun h => ?_⟩
  have hlist : ∀ op ∈ unmappedBytes, opcodeTable op = none := by decide
  exact hlist op h

theorem mnemonic_eq_none_iff (i : Instr) : i.mnemonic = none ↔ i.opcode ∈ unmappedBytes :=
  Option.map_eq_none_iff.trans (opcodeTable_eq_none_iff i.opcode)

/-- The mnemonic of an instruction from its opcode. -/
theorem mnemonic_of {i : Instr} {op : Byte} {mn : Mnemonic} (h : i.opcode = op)
    (k : (opcodeTable op).map Entry.instr = some mn) : i.mnemonic = some mn := by
  subst h
  exact k

/-- Whether a byte begins an instruction of one byte: it waits for no operand byte and has no signature byte. -/
def standsAlone (op : Byte) : Bool :=
  match decodeOpcode op with
  | .bare _ => !hasSignature op
  | .byte _ | .word _ => false

theorem decode_of_standsAlone {op : Byte} (h : standsAlone op = true) (tail : List Byte) :
    ∃ i, decode (op :: tail) = .ok (i, tail) := by
  simp only [standsAlone, decode] at h ⊢
  cases hd : decodeOpcode op with
  | bare i =>
    simp only [hd, Bool.not_eq_true'] at h ⊢
    exact ⟨i, by simp [h]⟩
  | byte f => simp [hd] at h
  | word f => simp [hd] at h

/-- The check of a table is the check of each of its entries (R114). -/
theorem tableWellFormed_of_entries {table : Byte → Option Entry}
    (h : ∀ op, ∀ e ∈ table op, e.wellFormed op = true) : tableWellFormed table = true := by
  refine List.all_eq_true.mpr fun n _ => ?_
  split
  next e he => exact h _ e he
  next => rfl

theorem opcodeTable_entries_wellFormed : ∀ op : Byte, ∀ e ∈ opcodeTable op, e.wellFormed op = true :=
  Machine.forall_byte_of_nibbles (by decide)

end Sys2Proof
end

section
/-! SUPPORT. Of the parameters of spec/00_scope.md R5 a Step reads MEMORY, and otherwise only where it goes on after an
interrupt (R338), transfers to the instruction itself, or charges such a branch (R120): in one lemma,
`exec_setParams`. -/

namespace Sys2Proof.Machine

/-- Of the parameters `f` reads MEMORY alone. -/
def BlindToModes (f : State → State) : Prop :=
  ∀ s q, q.memory = s.params.memory → f (s.setParams q) = (f s).setParams q

/-- The same of an operation that answers a value too, which depends on no other parameter. -/
def AnswersBlindToModes {β : Type} (f : State → β × State) : Prop :=
  ∀ s q, q.memory = s.params.memory → f (s.setParams q) = ((f s).1, (f s).2.setParams q)

/-- A claim about two choices of the parameters with one MEMORY is one about each MEMORY. -/
theorem forall_params_of_memory {P : State → Params → Prop}
    (h : ∀ (s : State) (q : Params) (k : MemoryKind),
      P (s.setParams { s.params with memory := k }) { q with memory := k })
    (s : State) (q : Params) (hq : q.memory = s.params.memory) : P s q := by
  have hsame : { q with memory := s.params.memory } = q := by rw [← hq]
  exact hsame ▸ h s q s.params.memory

/-! ### The handlers -/

theorem push16_blindToModes (w : Word) : BlindToModes (push16 w) :=
  forall_params_of_memory fun s q k => by cases k <;> rfl

theorem vector_blindToModes (v : Word) : BlindToModes (vector v) :=
  forall_params_of_memory fun s q k => by cases k <;> rfl

theorem blindToModes_of_read {mn : Mnemonic} {h : Operand → State → State} (hk : kindOf mn = .read h) (o : Operand) :
    BlindToModes (h o) := by
  refine forall_params_of_memory fun s q k => ?_
  rcases o with v | _ | ea
  · cases mn <;> cases hk <;> rfl
  · cases mn <;> cases hk <;> rfl
  · cases mn <;> cases hk <;> cases k <;> rfl

theorem blindToModes_of_write {mn : Mnemonic} {h : Place → State → State} (hk : kindOf mn = .write h) (t : Place) :
    BlindToModes (h t) := by
  refine forall_params_of_memory fun s q k => ?_
  cases t with
  | acc => cases mn <;> cases hk <;> rfl
  | mem ea => cases mn <;> cases hk <;> cases k <;> rfl

theorem blindToModes_of_implied {mn : Mnemonic} {h : State → State} (hk : kindOf mn = .implied h) :
    BlindToModes h := by
  refine forall_params_of_memory fun s q k => ?_
  cases mn <;> cases hk
  case pha | php | pla | plp => cases k <;> rfl
  all_goals rfl

theorem blindToModes_of_leave {mn : Mnemonic} {h : Unit → State → Next × State} (hk : kindOf mn = .leave h) :
    AnswersBlindToModes (h ()) := by
  refine forall_params_of_memory fun s q k => ?_
  cases mn <;> cases hk <;> cases k <;> rfl

/-! ### The resolver -/

/-- A resolved operand with the parameters of its state as given. -/
def Resolved.setParams {α : Type} (r : Resolved α) (q : Params) : Resolved α :=
  { r with state := r.state.setParams q }

theorem readForm_setParams (f : Form) : ∀ (s : State) (q : Params), q.memory = s.params.memory →
    readForm f (s.setParams q) = (readForm f s).map (Resolved.setParams · q) :=
  forall_params_of_memory fun s q k => by
    cases f with
    | mem m => cases m <;> cases k <;> rfl
    | _ => rfl

theorem writeForm_setParams (f : Form) : ∀ (s : State) (q : Params), q.memory = s.params.memory →
    writeForm f (s.setParams q) = (writeForm f s).map (Resolved.setParams · q) :=
  forall_params_of_memory fun s q k => by
    cases f with
    | mem m => cases m <;> cases k <;> rfl
    | _ => rfl

theorem jumpForm_setParams (f : Form) : ∀ (s : State) (q : Params), q.memory = s.params.memory →
    jumpForm f (s.setParams q) = (jumpForm f s).map (Resolved.setParams · q) :=
  forall_params_of_memory fun s q k => by
    cases f with
    | mem m => cases m <;> rfl
    | ind addr => cases k <;> rfl
    | _ => rfl

theorem resolvedState_blindToModes (f : Form) : BlindToModes (resolvedState f) :=
  forall_params_of_memory fun s q k => by
    cases f with
    | mem m => cases m <;> cases k <;> rfl
    | ind addr => cases k <;> rfl
    | _ => rfl

theorem crossOf_setParams (f : Form) : ∀ (s : State) (q : Params), q.memory = s.params.memory →
    crossOf f (s.setParams q) = crossOf f s :=
  forall_params_of_memory fun s q k => by
    cases f with
    | mem m => cases m <;> cases k <;> rfl
    | _ => rfl

/-! ### A transfer to the instruction itself apart -/

/-- How a handler ends is the same with the parameters `q`, and so is what it does unless it transfers to the
instruction itself (R120); and it leaves PC to the PC update (R119). -/
structure AgreesOffSelf (h : State → Next × State) (s : State) (q : Params) : Prop where
  next : (h (s.setParams q)).1 = (h s).1
  state : (h s).1 ≠ .transfer s.pc → (h (s.setParams q)).2 = (h s).2.setParams q
  pc : (h s).2.pc = s.pc

theorem SameButData.pc {s t : State} (h : SameButData s t) : t.pc = s.pc := by rw [h]

theorem AnswersBlindToModes.agreesOffSelf {h : State → Next × State} (hblind : AnswersBlindToModes h) {s : State}
    {q : Params} (hq : q.memory = s.params.memory) (hpc : (h s).2.pc = s.pc) : AgreesOffSelf h s q where
  next := by rw [hblind s q hq]
  state _ := by rw [hblind s q hq]
  pc := hpc

theorem BlindToModes.agreesOffSelf {h : State → State} (hblind : BlindToModes h) (hkeep : ∀ s, SameButData s (h s))
    {s : State} {q : Params} (hq : q.memory = s.params.memory) : AgreesOffSelf (fun u => (.sequential, h u)) s q where
  next := rfl
  state _ := hblind s q hq
  pc := (hkeep s).pc

/-- Off the branch itself both modes charge a page cross alike (R120, R230). -/
theorem branchCrossCharged_of_ne {t : Word} {s : State} (h : t ≠ s.pc) :
    branchCrossCharged t s = (page (s.pc + 2) != page t) := by
  unfold branchCrossCharged
  split <;> simp [h]

theorem branch_taken {cond : Flags → Bool} {s : State} (h : cond s.p = true) (t : Word) :
    branch cond t s = (.transfer t, addCycles (1 + (branchCrossCharged t s).toNat) s) := if_pos h

theorem branch_untaken {cond : Flags → Bool} {s : State} (h : cond s.p = false) (t : Word) :
    branch cond t s = (.sequential, s) := if_neg (by simp [h])

theorem agreesOffSelf_branch (cond : Flags → Bool) (t : Word) (s : State) (q : Params) :
    AgreesOffSelf (branch cond t) s q := by
  cases hc : cond s.p with
  | false =>
    have hq := branch_untaken (s := s.setParams q) hc t
    constructor <;> simp [branch_untaken hc, hq]
  | true =>
    have hq := branch_taken (s := s.setParams q) hc t
    constructor <;> rw [branch_taken hc]
    · rw [hq]
    · intro hne
      have ht : t ≠ s.pc := fun heq => hne (congrArg Next.transfer heq)
      rw [hq, branchCrossCharged_of_ne ht, branchCrossCharged_of_ne (s := s.setParams q) ht]
      rfl
    · rfl

theorem agreesOffSelf_of_jump {mn : Mnemonic} {h : Word → State → Next × State} (hk : kindOf mn = .jump h) (t : Word)
    {s : State} {q : Params} (hq : q.memory = s.params.memory) : AgreesOffSelf (h t) s q := by
  cases mn <;> cases hk
  case jmp => exact ⟨rfl, fun _ => rfl, rfl⟩
  case jsr => exact ⟨rfl, fun _ => push16_blindToModes _ s q hq, push16_pc _ s⟩
  all_goals exact agreesOffSelf_branch _ t s q

theorem agreesOffSelf_of_leave {mn : Mnemonic} {h : Unit → State → Next × State} (hk : kindOf mn = .leave h)
    {s : State} {q : Params} (hq : q.memory = s.params.memory) : AgreesOffSelf (h ()) s q := by
  refine (blindToModes_of_leave hk).agreesOffSelf hq ?_
  cases mn <;> cases hk
  case rts => exact pop16_pc s
  case brk => exact enterHandler_pc _ _ s
  case rti => simp [handleRti, returnFromInterrupt_spec]

theorem updatePc_setParams (op : Byte) {n : Next} {s : State} (h : n ≠ .transfer s.pc) (q : Params) :
    updatePc op n (s.setParams q) = (updatePc op n s).setParams q := by
  cases n with
  | sequential => rfl
  | transfer t =>
    have ht : t ≠ s.pc := fun heq => h (congrArg Next.transfer heq)
    unfold updatePc
    cases s.params.pcUpdate <;> cases hq : q.pcUpdate <;> simp [hq, ht] <;> rfl

/-- An architectural transfer goes to its target (R119). -/
theorem updatePc_architectural {s : State} (h : s.params.pcUpdate = .architectural) (op : Byte) (t : Word) :
    updatePc op (.transfer t) s = s.setPc t := by
  unfold updatePc
  rw [h]

/-! ### The instruction -/

/-- The part of a Step after decode (R117), where the Architectural mode leaves PC at another address. -/
theorem run_setParams {α : Type} {op : Byte} {r : Resolved α} {h : α → State → Next × State} {s t u : State}
    {q : Params} (hr : SameButPort s r.state) (hh : ∀ w : State, w.params = s.params → AgreesOffSelf (h r.operand) w q)
    (ht : run op r h = .next t) (hu : run op (r.setParams q) h = .next u)
    (harch : u.params.pcUpdate = .architectural) (hpc : u.pc ≠ s.pc) : u = t.setParams q := by
  obtain ⟨hnext, hstate, hkeep⟩ := hh (account op r.cross r.state) hr.params
  rw [run_eq] at ht hu
  cases ht
  change Host.Outcome.next (updatePc op (h r.operand ((account op r.cross r.state).setParams q)).1
    (h r.operand ((account op r.cross r.state).setParams q)).2) = _ at hu
  cases hu
  rw [updatePc_params] at harch
  rw [hnext] at hpc ⊢
  by_cases hself : (h r.operand (account op r.cross r.state)).1 = .transfer (account op r.cross r.state).pc
  · rw [hself, updatePc_architectural harch] at hpc
    exact absurd hr.pc hpc
  · rw [hstate hself, updatePc_setParams _ (by rwa [hkeep])]

/-- Wherever the Architectural mode leaves PC at another address than the instruction's own, every mode does what it
does (R119, R120). -/
theorem exec_setParams {i : Instr} {s t u : State} {q : Params} (hq : q.memory = s.params.memory)
    (harch : q.pcUpdate = .architectural) (ht : exec i s = .next t) (hu : exec i (s.setParams q) = .next u)
    (hpc : u.pc ≠ s.pc) : u = t.setParams q := by
  have huarch : u.params.pcUpdate = .architectural := by rwa [(exec_keepsFixed hu).params]
  rcases exec_cases i s with ⟨he, hx⟩ | ⟨e, he, hkind⟩
  · rw [exec_unmapped he] at hu
    cases hu
    exact absurd rfl hpc
  rcases hkind with ⟨f, r, hk, hr, hx⟩ | ⟨f, r, hk, hr, hx⟩ | ⟨f, hk, -, hx⟩ | ⟨hk, hx⟩ | ⟨f, r, hk, hr, hx⟩ |
    ⟨f, hk, -, hx⟩ <;> rw [hx] at ht
  · obtain ⟨r', hr', hx'⟩ := exec_read (s := s.setParams q) he hk
    rw [readForm_setParams _ s q hq, hr] at hr'
    cases hr'
    rw [hx'] at hu
    exact run_setParams (sameButPort_of_readForm hr) (fun w hw =>
      (blindToModes_of_read hk _).agreesOffSelf (sameButData_of_read hk _) (by rwa [hw])) ht hu huarch hpc
  · obtain ⟨r', hr', hx'⟩ := exec_write (s := s.setParams q) he hk
    rw [writeForm_setParams _ s q hq, hr] at hr'
    cases hr'
    rw [hx'] at hu
    exact run_setParams (sameButPort_of_writeForm hr) (fun w hw =>
      (blindToModes_of_write hk _).agreesOffSelf (sameButData_of_write hk _) (by rwa [hw])) ht hu huarch hpc
  · rw [(exec_implied (s := s.setParams q) he hk).2] at hu
    exact run_setParams (r := noOperand s) (h := fun _ u => (.sequential, f u)) (SameButPort.refl s) (fun w hw =>
      (blindToModes_of_implied hk).agreesOffSelf (sameButData_of_implied hk) (by rwa [hw])) ht hu huarch hpc
  · rw [exec_ignore (s := s.setParams q) he hk, crossOf_setParams _ s q hq, resolvedState_blindToModes _ s q hq] at hu
    exact run_setParams (r := ⟨(), crossOf i.form s, resolvedState i.form s⟩) (h := fun _ u => (.sequential, u))
      (sameButPort_resolvedState i.form s) (fun _ _ => ⟨rfl, fun _ => rfl, rfl⟩) ht hu huarch hpc
  · obtain ⟨r', hr', hx'⟩ := exec_jump (s := s.setParams q) he hk
    rw [jumpForm_setParams _ s q hq, hr] at hr'
    cases hr'
    rw [hx'] at hu
    exact run_setParams (sameButPort_of_jumpForm hr) (fun w hw => agreesOffSelf_of_jump hk _ (by rwa [hw])) ht hu
      huarch hpc
  · rw [(exec_leave (s := s.setParams q) he hk).2] at hu
    exact run_setParams (r := noOperand s) (SameButPort.refl s)
      (fun w hw => agreesOffSelf_of_leave hk (by rwa [hw])) ht hu huarch hpc

/-! ### The check point -/

/-- Which interrupt is serviced, and how, depends on no parameter but MEMORY (R323, R328). -/
theorem serviceInterrupt_setParams {s : State} {q : Params} (hq : q.memory = s.params.memory) :
    serviceInterrupt (s.setParams q) = (serviceInterrupt s).map (State.setParams · q) := by
  have hnmi : serviceNmi (s.setParams q) = (serviceNmi s).setParams q :=
    vector_blindToModes s.nmiAddress ((s.setNmiPending false).setNmiRunning true) q hq
  have hirq : serviceIrq (s.setParams q) = (serviceIrq s).setParams q :=
    vector_blindToModes s.irqAddress ((s.setIrqPending false).setIrqRunning true) q hq
  unfold serviceInterrupt
  rw [hnmi, hirq, State.setParams_nmiPending, State.setParams_irqPending, State.setParams_p]
  split
  · rfl
  · split <;> rfl

end Sys2Proof.Machine
end

section
/-! SUPPORT. What the instructions that transfer control are: a branch in one lemma, `exec_branch`, and JMP, JSR, RTS,
BRK and RTI each by what it does before the PC update; and where a transfer to the instruction itself goes under
`SourceHeuristic` (R120). -/

namespace Sys2Proof.Machine

/-! ### The PC update -/

/-- A JMP goes to its target in both modes (R119, R120). -/
theorem updatePc_jmp {op : Byte} (h : isJmp op = true) (t : Word) (s : State) :
    updatePc op (.transfer t) s = s.setPc t := by
  unfold updatePc
  split <;> simp_all

/-- Under `SourceHeuristic` a transfer to the instruction itself falls through, JMP excepted (R120). -/
theorem updatePc_self {s : State} (hmode : s.params.pcUpdate = .sourceHeuristic) {op : Byte} {t size : Word}
    (hself : t = s.pc) (hjmp : isJmp op = false) (hsize : BitVec.ofNat 16 (opSize op) = size) :
    updatePc op (.transfer t) s = s.setPc (s.pc + size) := by
  unfold updatePc
  simp [hmode, hjmp, hself, hsize]

/-! ### The branches -/

/-- A taken branch to itself is not charged a page cross (R120, R230). -/
theorem branchCrossCharged_self {s : State} (hmode : s.params.pcUpdate = .sourceHeuristic) {t : Word}
    (hself : t = s.pc) : branchCrossCharged t s = false := by
  unfold branchCrossCharged
  simp [hmode, hself]

/-- The opcode bytes of the branches (R231 to R238). -/
def branchOpcodes : List Byte := [0x90, 0xB0, 0xF0, 0x30, 0xD0, 0x10, 0x50, 0x70]

/-- The rows of the branches (R111). -/
theorem branchOpcodes_rows : ∀ op ∈ branchOpcodes,
    baseCycles op = 2 ∧ crossCharged op = false ∧ opSize op = 2 ∧ isJmp op = false := by decide

/-- All a branch instruction can be: a branch on its condition to the target of its offset (R230 to R238). -/
theorem exec_branch {s : State} {off : Byte} {i : Instr} {taken : Bool}
    (h : (i, taken) ∈ [(Instr.bcc off, !s.p.c), (Instr.bcs off, s.p.c), (Instr.beq off, s.p.z), (Instr.bmi off, s.p.n),
      (Instr.bne off, !s.p.z), (Instr.bpl off, !s.p.n), (Instr.bvc off, !s.p.v), (Instr.bvs off, s.p.v)]) :
    ∃ op ∈ branchOpcodes, ∃ cond : Flags → Bool,
      cond s.p = taken ∧ exec i s = run op (relTarget off s) (branch cond) := by
  simp only [List.mem_cons, List.not_mem_nil, or_false, Prod.mk.injEq] at h
  rcases h with ⟨rfl, rfl⟩ | ⟨rfl, rfl⟩ | ⟨rfl, rfl⟩ | ⟨rfl, rfl⟩ | ⟨rfl, rfl⟩ | ⟨rfl, rfl⟩ | ⟨rfl, rfl⟩ | ⟨rfl, rfl⟩
  · exact ⟨0x90, by decide, fun p => !p.c, rfl, rfl⟩
  · exact ⟨0xB0, by decide, fun p => p.c, rfl, rfl⟩
  · exact ⟨0xF0, by decide, fun p => p.z, rfl, rfl⟩
  · exact ⟨0x30, by decide, fun p => p.n, rfl, rfl⟩
  · exact ⟨0xD0, by decide, fun p => !p.z, rfl, rfl⟩
  · exact ⟨0x10, by decide, fun p => !p.n, rfl, rfl⟩
  · exact ⟨0x50, by decide, fun p => !p.v, rfl, rfl⟩
  · exact ⟨0x70, by decide, fun p => p.v, rfl, rfl⟩

/-- A taken branch to itself goes to the next instruction for 3 cycles (R120). -/
theorem run_branch_self {op : Byte} (hop : op ∈ branchOpcodes) {cond : Flags → Bool} {off : Byte} {s : State}
    (hmode : s.params.pcUpdate = .sourceHeuristic) (htaken : cond s.p = true)
    (hself : s.pc + 2 + off.signExtend 16 = s.pc) :
    run op (relTarget off s) (branch cond) = .next { s with pc := s.pc + 2, cycles := s.cycles + 3 } := by
  obtain ⟨hbase, hcross, hsize, hjmp⟩ := branchOpcodes_rows op hop
  have hbranch := branch_taken (s := account op false s) htaken (s.pc + 2 + off.signExtend 16)
  rw [branchCrossCharged_self (s := account op false s) hmode hself] at hbranch
  change Host.Outcome.next (updatePc op (branch cond (s.pc + 2 + off.signExtend 16) (account op false s)).1
    (branch cond (s.pc + 2 + off.signExtend 16) (account op false s)).2) = _
  rw [hbranch, updatePc_self (by exact hmode) (by exact hself) hjmp (by rw [hsize])]
  simp [State.setPc, addCycles, account, State.setCycles, hbase, hcross, BitVec.add_assoc]

/-! ### The jumps, the subroutine instructions and the returns -/

/-- A claim about a state is one about it with each MEMORY. -/
theorem forall_state_of_memory {P : State → Prop}
    (h : ∀ (s : State) (k : MemoryKind), P (s.setParams { s.params with memory := k })) (s : State) : P s :=
  h s s.params.memory

theorem push_account (v op : Byte) (cross : Bool) : ∀ s : State,
    push v (account op cross s) = account op cross (push v s) :=
  forall_state_of_memory fun s k => by cases k <;> rfl

theorem pop_account (op : Byte) (cross : Bool) : ∀ s : State,
    pop (account op cross s) = ((pop s).1, account op cross (pop s).2) :=
  forall_state_of_memory fun s k => by cases k <;> rfl

theorem pop_setP (q : Flags) : ∀ s : State, pop (s.setP q) = ((pop s).1, (pop s).2.setP q) :=
  forall_state_of_memory fun s k => by cases k <;> rfl

theorem pop16_account (op : Byte) (cross : Bool) (s : State) :
    pop16 (account op cross s) = ((pop16 s).1, account op cross (pop16 s).2) := by
  simp only [pop16_spec, pop_account]

/-- The popped P is no part of the address that is then popped (R273). -/
theorem returnFromInterrupt_fst (s : State) : (returnFromInterrupt s).1 = (pop16 (pop s).2).1 := by
  simp only [returnFromInterrupt_spec, pop16_spec, pop_setP]

@[simp] theorem returnFromInterrupt_pc (s : State) : (returnFromInterrupt s).2.pc = s.pc := by
  simp [returnFromInterrupt_spec]

@[simp] theorem returnFromInterrupt_params (s : State) : (returnFromInterrupt s).2.params = s.params := by
  simp [returnFromInterrupt_spec]

theorem returnFromInterrupt_account (op : Byte) (cross : Bool) (s : State) :
    returnFromInterrupt (account op cross s) =
      ((returnFromInterrupt s).1, account op cross (returnFromInterrupt s).2) := by
  simp only [returnFromInterrupt_spec, pop16_spec, pop_account, pop_setP]
  rfl

/-- JMP abs (R239). -/
theorem exec_jmpAbs (addr : Word) (s : State) :
    exec (.jmpAbs addr) s = .next { s with pc := addr, cycles := s.cycles + 3 } := by
  have hexec : exec (.jmpAbs addr) s = .next (updatePc 0x4C (.transfer addr) (account 0x4C false s)) := rfl
  rw [hexec, updatePc_jmp rfl]
  rfl

/-- JMP (abs) (R104, R239). -/
theorem exec_jmpInd (addr : Word) (s : State) :
    exec (.jmpInd addr) s =
      .next { (readWordBug addr s).2 with pc := (readWordBug addr s).1, cycles := s.cycles + 5 } := by
  have hexec : exec (.jmpInd addr) s =
    .next (updatePc 0x6C (.transfer (readWordBug addr s).1) (account 0x6C false (readWordBug addr s).2)) := rfl
  rw [hexec, updatePc_jmp rfl, ← readWordBug_cycles addr s]
  rfl

/-- JSR (R240). -/
theorem exec_jsr (addr : Word) (s : State) :
    exec (.jsr addr) s = .next (updatePc 0x20 (.transfer addr) (account 0x20 false (push16 (s.pc + 2) s))) := by
  unfold push16
  rw [← push_account, ← push_account]
  rfl

/-- RTS (R241). -/
theorem exec_rts (s : State) :
    exec .rts s = .next (updatePc 0x60 (.transfer ((pop16 s).1 + 1)) (account 0x60 false (pop16 s).2)) := by
  have hexec : exec .rts s = run 0x60 (noOperand s) handleRts := rfl
  rw [hexec, run_eq]
  simp only [handleRts, noOperand, pop16_account]

/-- BRK (R272). -/
theorem exec_brk (s : State) :
    exec .brk s = .next (updatePc 0x00 (.transfer s.irqAddress)
      (account 0x00 false (enterHandler (s.pc + 2) (softwareStatus s.p) s))) := by
  have hexec : exec .brk s = run 0x00 (noOperand s) handleBrk := rfl
  rw [hexec, run_eq]
  simp only [handleBrk, noOperand, enterHandler, push16, push_account]
  rfl

/-- RTI (R273). -/
theorem exec_rti (s : State) :
    exec .rti s = .next (updatePc 0x40 (.transfer (returnFromInterrupt s).1)
      (account 0x40 false (returnFromInterrupt s).2)) := by
  have hexec : exec .rti s = run 0x40 (noOperand s) handleRti := rfl
  rw [hexec, run_eq]
  simp only [handleRti, noOperand, returnFromInterrupt_account]

end Sys2Proof.Machine
end

section
/-! SUPPORT. The resolver in natural numbers (spec/30_encoding.md R98 to R106): the addresses of page zero, the pointer
read inside it, and the indexed address with its page-cross bit. -/

namespace Sys2Proof.Machine

theorem wordOf_zero (b : Byte) : wordOf 0 b = BitVec.ofNat 16 b.toNat := by
  apply BitVec.eq_of_toNat_eq
  rw [wordOf_toNat]
  bv_omega

theorem wordOf_zero_toNat (b : Byte) : (wordOf 0 b).toNat = b.toNat := by simp [wordOf_toNat]

/-- Indexing inside page zero wraps modulo 256 (R99, R100). -/
theorem wordOf_zero_add_toNat (b index : Byte) : (wordOf 0 (b + index)).toNat = (b.toNat + index.toNat) % 256 := by
  rw [wordOf_zero_toNat, BitVec.toNat_add]

/-- The wrap-bug reader under `PlainRAM` (R65). -/
theorem readWordBug_plainRam {s : State} (hram : s.params.memory = .plainRam) (a : Word) :
    (readWordBug a s).1 = wordOf (s.byteAt (wordOf (hi a) (lo a + 1))) (s.byteAt a) := by
  rw [readWordBug_spec, afterRead_portByte hram, portByte_eq_byteAt hram]

/-- A pointer of page zero has both its bytes there, at `p` and `p + 1` modulo 256 (R65, R105, R106). -/
theorem readWordBug_zeroPage {s : State} (hram : s.params.memory = .plainRam) {b : Byte} {p : Nat}
    (hb : b.toNat = p % 256) :
    (readWordBug (wordOf 0 b) s).1.toNat =
      (s.byteAt (BitVec.ofNat 16 (p % 256))).toNat + 256 * (s.byteAt (BitVec.ofNat 16 ((p + 1) % 256))).toNat := by
  have hnext : (b + 1).toNat = (p + 1) % 256 := by bv_omega
  rw [readWordBug_plainRam hram, hi_wordOf, lo_wordOf, wordOf_toNat, wordOf_zero, wordOf_zero, hnext, hb]
  omega

/-- An indexed address wraps modulo 65,536 (R102, R103). -/
theorem indexed_toNat (base : Word) (index : Byte) (s : State) :
    (indexed base index s).operand.toNat = (base.toNat + index.toNat) % 65536 := by
  unfold indexed zext16
  bv_omega

/-- The page-cross bit is the carry out of the low byte (R121). -/
theorem indexed_cross (base : Word) (index : Byte) (s : State) :
    (indexed base index s).cross = decide (256 ≤ base.toNat % 256 + index.toNat) := by
  have hcross : (indexed base index s).cross = (hi (indexed base index s).operand != hi base) := rfl
  rw [hcross, Bool.eq_iff_iff, bne_iff_ne, decide_eq_true_eq, ne_eq, ← BitVec.toNat_inj, hi_toNat, hi_toNat,
    indexed_toNat]
  omega

theorem resolveMem_indy (b : Byte) (s : State) :
    resolveMem (.indy b) s =
      indexed (readWordBug (wordOf 0 b) s).1 (readWordBug (wordOf 0 b) s).2.y (readWordBug (wordOf 0 b) s).2 := rfl

end Sys2Proof.Machine
end

section
/-! SUPPORT. The self-jump of spec/70_reset_and_hazards.md R382: the bytes it is under PlainRAM, and what a Step from it
leaves. -/

namespace Sys2Proof.Machine

/-! ### What the port answers -/

/-- Two states at which the port answers every read alike, now and after more reads. -/
structure AnswersAlike (s t : State) : Prop where
  mem : t.mem = s.mem
  params : t.params = s.params
  draws : t.draws = s.draws

theorem AnswersAlike.portByte {s t : State} (h : AnswersAlike s t) (a : Word) : t.portByte a = s.portByte a := by
  unfold State.portByte
  rw [h.mem, h.params, h.draws]

theorem AnswersAlike.afterRead {s t : State} (h : AnswersAlike s t) (a b : Word) :
    AnswersAlike (s.afterRead a) (t.afterRead b) where
  mem := by simp [h.mem]
  params := by simp [h.params]
  draws := by simp [afterRead_draws, h.params, h.draws]

theorem AnswersAlike.readWordBug {s t : State} (h : AnswersAlike s t) (a : Word) :
    (readWordBug a t).1 = (readWordBug a s).1 := by
  rw [readWordBug_spec, readWordBug_spec, h.portByte, (h.afterRead a a).portByte]

theorem AnswersAlike.fetch {s t : State} (h : AnswersAlike s t) (hpc : t.pc = s.pc) :
    (fetch t).1 = (fetch s).1 ∧ AnswersAlike (fetch s).2 (fetch t).2 := by
  have h₁ := h.afterRead s.pc s.pc
  have h₂ := h₁.afterRead (s.pc + 1) (s.pc + 1)
  unfold Machine.fetch
  simp only [memRead_fst, memRead_snd, afterRead_pc, hpc, h.portByte, h₁.portByte, h₂.portByte]
  cases decodeOpcode (s.portByte s.pc) with
  | bare i => exact ⟨rfl, h₁⟩
  | byte f => exact ⟨rfl, h₂⟩
  | word f => exact ⟨rfl, h₂.afterRead _ _⟩

theorem AnswersAlike.jmpTarget {s t : State} (h : AnswersAlike s t) (f : Form) : jmpTarget f t = jmpTarget f s := by
  cases f with
  | mem m => cases m <;> rfl
  | ind addr => exact congrArg some (h.readWordBug addr)
  | _ => rfl

theorem AnswersAlike.selfJump {s t : State} (h : AnswersAlike s t) (hpc : t.pc = s.pc) : selfJump t = selfJump s := by
  obtain ⟨hinstr, hafter⟩ := h.fetch hpc
  unfold Machine.selfJump
  simp only [hinstr, hafter.jmpTarget, hpc]

/-! ### Under PlainRAM the reads of a fetch change no answer -/

theorem answersAlike_fetchReads {s : State} (hram : s.params.memory = .plainRam) (n : Nat) :
    AnswersAlike s (fetchReads s n) where
  mem := (sameButPort_fetchReads s n).mem
  params := (sameButPort_fetchReads s n).params
  draws := by simp [fetchReads_draws, hram]

theorem readWordBug_draws {s : State} (hram : s.params.memory = .plainRam) (a : Word) :
    (readWordBug a s).2.draws = s.draws := by
  simp [readWordBug_spec, afterRead_draws, hram]

theorem fetch_draws {s : State} (hram : s.params.memory = .plainRam) : (fetch s).2.draws = s.draws := by
  unfold fetch
  simp only [memRead_fst, memRead_snd]
  split <;> simp [afterRead_draws, hram]

/-! ### The bytes of a self-jump -/

/-- The opcode of the fetched instruction is the byte at PC (R78, R115). -/
theorem fetch_opcode (s : State) : (fetch s).1.opcode = s.portByte s.pc := by
  have hshape := shapeRight (s.portByte s.pc)
  unfold ShapeRight at hshape
  unfold fetch
  simp only [memRead_fst, memRead_snd]
  cases hd : decodeOpcode (s.portByte s.pc) with
  | bare i =>
    simp only [hd] at hshape
    exact hshape.1
  | byte f =>
    simp only [hd] at hshape
    exact hshape.1 _
  | word f =>
    simp only [hd] at hshape
    exact hshape.1 _

theorem opcode_of_selfJump {s : State} (h : selfJump s = true) :
    s.portByte s.pc = 0x4C ∨ s.portByte s.pc = 0x6C := by
  rw [← fetch_opcode]
  rcases selfJump_cases h with hj | ⟨addr, hj, -⟩
  · exact .inl (congrArg Instr.opcode hj)
  · exact .inr (congrArg Instr.opcode hj)

theorem selfJump_of_fetch_jmpAbs {s u : State} {addr : Word} (h : fetch s = (.jmpAbs addr, u)) :
    selfJump s = true ↔ addr = s.pc := by
  have hmn : (Instr.jmpAbs addr).mnemonic = some .jmp := mnemonic_of (op := 0x4C) rfl rfl
  have htarget : jmpTarget (Instr.jmpAbs addr).form u = some addr := rfl
  simp [selfJump, h, hmn, htarget]

theorem selfJump_of_fetch_jmpInd {s u : State} {addr : Word} (h : fetch s = (.jmpInd addr, u)) :
    selfJump s = true ↔ (readWordBug addr u).1 = s.pc := by
  have hmn : (Instr.jmpInd addr).mnemonic = some .jmp := mnemonic_of (op := 0x6C) rfl rfl
  have htarget : jmpTarget (Instr.jmpInd addr).form u = some (readWordBug addr u).1 := rfl
  simp [selfJump, h, hmn, htarget]

/-- The operand word of the instruction at PC (R92). -/
def operandWord (s : State) : Word := wordOf (s.byteAt (s.pc + 2)) (s.byteAt (s.pc + 1))

/-- Under `PlainRAM` a byte that begins an instruction of one operand word fetches it with the word after PC (R78,
R92). -/
theorem fetch_of_word {s : State} (hram : s.params.memory = .plainRam) {f : Word → Instr}
    (h : decodeOpcode (s.byteAt s.pc) = .word f) : ∃ u, fetch s = (f (operandWord s), u) ∧ AnswersAlike s u := by
  have hop : fetchByte s 0 = s.byteAt s.pc := by simp [fetchByte_plainRam hram]
  have hword : wordOf (fetchByte s 2) (fetchByte s 1) = operandWord s := by
    rw [fetchByte_plainRam hram, fetchByte_plainRam hram]
    rfl
  have hdecode : decode [fetchByte s 0, fetchByte s 1, fetchByte s 2] = .ok (f (operandWord s), []) := by
    simp only [decode, hop, h, hword]
  exact ⟨_, fetch_of_decode hdecode, answersAlike_fetchReads hram _⟩

/-- The bytes 4C lo hi at PC are a self-jump where the operand is PC (R239, R382). -/
theorem selfJump_of_4C {s : State} (hram : s.params.memory = .plainRam) (h : s.byteAt s.pc = 0x4C) :
    selfJump s = true ↔ operandWord s = s.pc := by
  obtain ⟨u, hfetch, -⟩ := fetch_of_word hram (f := .jmpAbs) (by rw [h]; rfl)
  exact selfJump_of_fetch_jmpAbs hfetch

/-- The bytes 6C lo hi at PC are a self-jump where the pointer, read with the page-wrap bug, is PC (R104, R239,
R382). -/
theorem selfJump_of_6C {s : State} (hram : s.params.memory = .plainRam) (h : s.byteAt s.pc = 0x6C) :
    selfJump s = true ↔
      wordOf (s.byteAt (wordOf (hi (operandWord s)) (lo (operandWord s) + 1))) (s.byteAt (operandWord s)) = s.pc := by
  obtain ⟨u, hfetch, halike⟩ := fetch_of_word hram (f := .jmpInd) (by rw [h]; rfl)
  rw [selfJump_of_fetch_jmpInd hfetch, halike.readWordBug, readWordBug_plainRam hram]

/-- All a self-jump can be under `PlainRAM` (R382). -/
theorem selfJump_iff_plainRam {s : State} (hram : s.params.memory = .plainRam) :
    selfJump s = true ↔
      (s.byteAt s.pc = 0x4C ∧ operandWord s = s.pc) ∨
      (s.byteAt s.pc = 0x6C ∧
        wordOf (s.byteAt (wordOf (hi (operandWord s)) (lo (operandWord s) + 1))) (s.byteAt (operandWord s)) =
          s.pc) := by
  constructor
  · intro h
    have hop := opcode_of_selfJump h
    rw [portByte_eq_byteAt hram] at hop
    exact hop.imp (fun h4C => ⟨h4C, (selfJump_of_4C hram h4C).mp h⟩)
      (fun h6C => ⟨h6C, (selfJump_of_6C hram h6C).mp h⟩)
  · rintro (⟨h4C, h⟩ | ⟨h6C, h⟩)
    · exact (selfJump_of_4C hram h4C).mpr h
    · exact (selfJump_of_6C hram h6C).mpr h

/-! ### A Step from a self-jump -/

/-- What a JMP to itself leaves: all but Cycles and the port's record, which under `PlainRAM` keeps its count. -/
structure JumpedToSelf (s t : State) : Prop where
  same : t = { s with cycles := t.cycles, draws := t.draws, portCalls := t.portCalls }
  cycles : t.cycles = s.cycles + 3 ∨ t.cycles = s.cycles + 5
  draws : s.params.memory = .plainRam → t.draws = s.draws

theorem runInstruction_selfJump {s : State} (h : selfJump s = true) :
    ∃ t, runInstruction s = .next t ∧ JumpedToSelf s t := by
  have hfetch : SameButPort s (fetch s).2 := sameButPort_fetch s
  rw [runInstruction_eq]
  rcases selfJump_cases h with hj | ⟨addr, hj, hself⟩
  · rw [hj, exec_jmpAbs]
    refine ⟨_, rfl, ?_, .inl (congrArg (· + 3) hfetch.cycles), fetch_draws⟩
    unfold SameButPort at hfetch
    rw [hfetch]
  · have hread := hfetch.trans (sameButPort_readWordBug addr (fetch s).2)
    rw [hj, exec_jmpInd, hself]
    refine ⟨_, rfl, ?_, .inr (congrArg (· + 5) hfetch.cycles), fun hram => ?_⟩
    · unfold SameButPort at hread
      rw [hread]
    · exact (readWordBug_draws (by rwa [hfetch.params]) addr).trans (fetch_draws hram)

/-- A Step from a normal end is its JMP to itself (R382). -/
theorem step_normalEnd {s : State} (h : normalEnd s = true) : ∃ t, step s = .next t ∧ JumpedToSelf s t := by
  simp only [normalEnd, Bool.and_eq_true, Option.isNone_iff_eq_none, Bool.not_eq_true'] at h
  obtain ⟨⟨hf, hself⟩, hserv⟩ := h
  have hbegin : AnswersAlike s s.beginStep := ⟨rfl, rfl, rfl⟩
  obtain ⟨t, hrun, hsame, hcycles, hdraws⟩ := runInstruction_selfJump ((hbegin.selfJump rfl).trans hself)
  rw [step_of_running hf, stepRunning_none (serviceInterrupt_none hserv)]
  exact ⟨t, hrun, hsame, hcycles, hdraws⟩

/-- Under `PlainRAM` a JMP to itself leaves a normal end where it began at one (R382). -/
theorem JumpedToSelf.normalEnd {s t : State} (h : JumpedToSelf s t) (hram : s.params.memory = .plainRam)
    (hs : normalEnd s = true) : normalEnd t = true := by
  obtain ⟨hsame, -, hdraws⟩ := h
  have halike : AnswersAlike s t := ⟨by rw [hsame], by rw [hsame], hdraws hram⟩
  have hself : selfJump t = selfJump s := halike.selfJump (by rw [hsame])
  have hfault : t.fault = s.fault := by rw [hsame]
  have hserv : serviceable t = serviceable s := by
    rw [hsame]
    rfl
  unfold Machine.normalEnd at hs ⊢
  rwa [hself, hserv, hfault]

end Sys2Proof.Machine
end

section
/-! SUPPORT. The runs of spec/70_reset_and_hazards.md R382: the Step a run ends at, what a run that goes on has met, and
that a program that ends never faults. -/

namespace Sys2Proof.Machine

/-- A run that has ended ended at a completed Step, before which it had not ended. -/
theorem runFrom_ended {events : List Event} {s t : State} {e : RunEnd} (h : runFrom events s = .ended e t) :
    ∃ before after u, events = before ++ .step :: after ∧ runFrom before s = .going u ∧ step u = .next t ∧
      endAt t = some e := by
  induction events generalizing s with
  | nil => cases h
  | cons event events ih =>
    cases hevent : happenInRun event s with
    | none => simp [runFrom, hevent] at h
    | some u =>
      cases hend : endAfter event u with
      | some k =>
        simp only [runFrom, hevent, hend, Progress.ended.injEq] at h
        obtain ⟨rfl, rfl⟩ := h
        cases event with
        | step => exact ⟨[], events, s, rfl, rfl, happen_step_eq_some hevent, hend⟩
        | host a => cases hend
      | none =>
        obtain ⟨before, after, w, rfl, hgoing, hstep, hendAt⟩ := ih (by simpa [runFrom, hevent, hend] using h)
        exact ⟨event :: before, after, w, rfl, by simpa [runFrom, hevent, hend] using hgoing, hstep, hendAt⟩

/-- A run that goes on stands where its events lead, and none of them is a Reset (R371). -/
theorem runFrom_going {events : List Event} {s t : State} (h : runFrom events s = .going t) :
    happenAll events s = some t ∧ .host .reset ∉ events := by
  induction events generalizing s with
  | nil =>
    cases h
    exact ⟨rfl, List.not_mem_nil⟩
  | cons event events ih =>
    cases hevent : happenInRun event s with
    | none => simp [runFrom, hevent] at h
    | some u =>
      cases hend : endAfter event u with
      | some k => simp [runFrom, hevent, hend] at h
      | none =>
        obtain ⟨hall, hreset⟩ := ih (by simpa [runFrom, hevent, hend] using h)
        simp only [happenInRun_eq, Option.ite_none_left_eq_some] at hevent
        obtain ⟨hne, hhappen⟩ := hevent
        exact ⟨by simp [happenAll, hhappen, hall], List.not_mem_cons_of_ne_of_not_mem (Ne.symm hne) hreset⟩

/-- The first part of a run that goes on goes on. -/
theorem runFrom_append_going {before after : List Event} {s u : State} (h : runFrom (before ++ after) s = .going u) :
    ∃ t, runFrom before s = .going t ∧ runFrom after t = .going u := by
  rw [runFrom_append] at h
  split at h
  next t hbefore => exact ⟨t, hbefore, h⟩
  all_goals cases h

/-- A run that goes on after a Step met no end at it (R382). -/
theorem runFrom_step_going {earlier : List Event} {s t : State} (h : runFrom (earlier ++ [.step]) s = .going t) :
    endAt t = none := by
  obtain ⟨u, -, hstep⟩ := runFrom_append_going h
  simp only [runFrom] at hstep
  split at hstep
  next => cases hstep
  next v _ =>
    split at hstep
    next => cases hstep
    next hend =>
      cases hstep
      exact hend

/-! ### A program that ends -/

/-- The endless run that begins with a list of events and then only steps. -/
def thenSteps (events : List Event) (n : Nat) : Event := events.getD n .step

theorem thenSteps_of_length_le {events : List Event} {n : Nat} (h : events.length ≤ n) : thenSteps events n = .step :=
  List.getD_eq_default events .step h

theorem mem_of_thenSteps_eq_host {events : List Event} {n : Nat} {a : HostAction}
    (h : thenSteps events n = .host a) : .host a ∈ events := by
  rcases Nat.lt_or_ge n events.length with hlt | hge
  · rw [← h, thenSteps, List.getD_eq_getElem _ _ hlt]
    exact List.getElem_mem hlt
  · rw [thenSteps_of_length_le hge] at h
    cases h

theorem keepsStepping_thenSteps (events : List Event) : KeepsStepping (thenSteps events) := fun n =>
  ⟨events.length + n, Nat.le_add_left _ _, thenSteps_of_length_le (Nat.le_add_right _ _)⟩

theorem firstEvents_thenSteps (events : List Event) : firstEvents (thenSteps events) events.length = events := by
  refine List.ext_getElem (by simp [firstEvents]) fun k _ hk => ?_
  simp [firstEvents, thenSteps, hk]

theorem firstEvents_append (run : Nat → Event) {n k : Nat} (h : n ≤ k) :
    ∃ more, firstEvents run k = firstEvents run n ++ more := by
  obtain ⟨d, rfl⟩ := Nat.exists_eq_add_of_le h
  unfold firstEvents
  rw [List.range_add, List.map_append]
  exact ⟨_, rfl⟩

/-- The endless run that begins with a run that has ended goes on until that end, and meets no other. -/
theorem runFrom_thenSteps {events : List Event} {s t : State} {e : RunEnd} (h : runFrom events s = .ended e t)
    (n : Nat) :
    (∃ u, runFrom (firstEvents (thenSteps events) n) s = .going u) ∨
      runFrom (firstEvents (thenSteps events) n) s = .ended e t := by
  rcases Nat.le_total n events.length with hle | hge
  · obtain ⟨more, hmore⟩ := firstEvents_append (thenSteps events) hle
    rw [firstEvents_thenSteps] at hmore
    rw [hmore, runFrom_append] at h
    split at h
    next u hu => exact .inl ⟨u, hu⟩
    next hu => exact .inr (hu.trans h)
    next => cases h
  · obtain ⟨more, hmore⟩ := firstEvents_append (thenSteps events) hge
    rw [firstEvents_thenSteps] at hmore
    exact .inr (by rw [hmore, runFrom_append, h])

/-- A program that ends faults in no run that its host can make: a run that faulted, and then only stepped, would reach
no normal end (R382). -/
theorem runFrom_ne_fault_of_programEnds {may : HostAction → Bool} {start t : State} {events : List Event}
    (hends : ProgramEndsUnder may start) (hmay : ∀ h, .host h ∈ events → may h = true) :
    runFrom events start ≠ .ended .fault t := by
  intro hfault
  obtain ⟨-, hends⟩ := hends
  have hrun := runFrom_thenSteps hfault
  have hhost : ∀ n h, thenSteps events n = .host h → may h = true := fun _ h hn => hmay h (mem_of_thenSteps_eq_host hn)
  have hisRun : ∀ n, runFrom (firstEvents (thenSteps events) n) start ≠ .notARun := by
    intro n hnone
    rcases hrun n with ⟨v, hv⟩ | hv <;> cases hv.symm.trans hnone
  obtain ⟨n, u, hnormal⟩ := hends (thenSteps events) hhost (keepsStepping_thenSteps events) hisRun
  rcases hrun n with ⟨v, hv⟩ | hv <;> cases hv.symm.trans hnormal

end Sys2Proof.Machine
end

section
/-! SUPPORT. The obligations of spec/30_encoding.md that are settled: O1, O2, O3, O4, O5, O6, O23, O35, O45, O48 and
O60. -/

namespace Sys2Proof.Machine

/-- Settles O1, over the shape that each opcode byte begins. -/
theorem decodeOfEncodeIsTheInstruction : Obligations.DecodeOfEncodeIsTheInstruction := decode_encode

/-- Settles O2: what decodes is its opcode, its operand bytes and BRK's signature byte, then the rest. -/
theorem encodeOfDecodeIsTheBytes : Obligations.EncodeOfDecodeIsTheBytes := by
  intro bytes rest i h
  obtain ⟨signature, hbytes, hlength⟩ := decode_eq_ok h
  constructor
  · intro hbrk
    rw [hasSignature_opcode_of_ne hbrk] at hlength
    rw [hbytes, List.eq_nil_of_length_eq_zero hlength]
    simp [encode, hasSignature_opcode_of_ne hbrk]
  · rintro rfl
    obtain ⟨b, rfl⟩ := List.length_eq_one_iff.mp hlength
    exact ⟨b, hbytes⟩

/-- Settles O3: the decoder runs on each word. -/
theorem wordsFromTheSpecDecode : Obligations.WordsFromTheSpecDecode :=
  ⟨rfl, rfl, rfl, rfl, rfl, rfl, rfl, rfl, rfl, rfl, rfl, rfl, rfl⟩

/-- Settles O4: the operand bytes are those of the row's mode, and BRK alone has a signature byte. -/
theorem lengthIsAFunctionOfTheOpcode : Obligations.LengthIsAFunctionOfTheOpcode := by
  intro op tail rest i e he h
  obtain ⟨signature, hbytes, hlength⟩ := decode_eq_ok h
  obtain ⟨rfl, rfl⟩ := List.cons.inj hbytes
  have hsize := operandBytes_length i.form
  have hmode : e.mode = i.form.mode := mode_of_entry he
  have hbrk := instr_eq_brk_iff i.opcode e he
  refine ⟨rfl, ?_⟩
  rw [List.length_append, List.length_append, hlength]
  split
  next hinstr =>
    have hsignature := hbrk.mp hinstr
    obtain rfl := (hasSignature_opcode_iff i).mp hsignature
    change 0 + (1 + rest.length) + 1 = rest.length + 2
    omega
  next hinstr =>
    have hsignature : hasSignature i.opcode = false := Bool.eq_false_iff.mpr (mt hbrk.mpr hinstr)
    rw [hsignature, hmode, Bool.toNat_false]
    omega

/-- Settles O5: each of the 25 bytes stands alone, and the table has no entry for those alone. -/
theorem unmappedBytesAreIllegal : Obligations.UnmappedBytesAreIllegal := by
  intro op tail
  constructor
  · rintro ⟨i, rest, h, hnone⟩
    rw [← opcode_of_decode h]
    exact (mnemonic_eq_none_iff i).mp hnone
  · intro hmem
    have halone : ∀ op ∈ unmappedBytes, standsAlone op = true := by decide
    obtain ⟨i, h⟩ := decode_of_standsAlone (halone op hmem) tail
    exact ⟨i, tail, h, (mnemonic_eq_none_iff i).mpr (opcode_of_decode h ▸ hmem)⟩

/-- Settles O6: the entries are checked one by one, and the rows are counted. -/
theorem opcodeTableIsConsistent : Obligations.OpcodeTableIsConsistent :=
  ⟨tableWellFormed_of_entries opcodeTable_entries_wellFormed, rfl, rfl, rfl⟩

/-- Settles O23: each transfer to itself by its own PC update, and the agreement of the modes elsewhere by
`exec_setParams`. -/
theorem selfTransferUnderSourceHeuristic : Obligations.SelfTransferUnderSourceHeuristic := by
  intro s hmode
  refine ⟨fun off i taken hi htaken hself => ?_, ⟨_, exec_jsr s.pc s, ?_, ?_⟩, fun hself => ⟨_, exec_rts s, ?_⟩,
    fun hself => ⟨_, exec_rti s, ?_⟩, fun hself => ⟨_, exec_brk s, ?_⟩, exec_jmpAbs s.pc s,
    fun addr hself => ⟨_, exec_jmpInd addr s, hself⟩, fun i t u ht hu hpc => ?_⟩
  · obtain ⟨op, hop, cond, hcond, hexec⟩ := exec_branch hi
    rw [hexec]
    exact run_branch_self hop hmode (hcond.trans htaken) hself
  · rw [updatePc_self (size := 3) (by simpa) (by simp) rfl rfl]
    simp
  · simp
  · rw [updatePc_self (size := 1) (by simpa) (by simpa) rfl rfl]
    simp
  · rw [updatePc_self (size := 1) (by simpa) (by simpa [returnFromInterrupt_fst]) rfl rfl]
    simp
  · rw [updatePc_self (size := 2) (by simpa) (by simpa) rfl rfl]
    simp
  · have hsame := exec_setParams (q := { s.params with pcUpdate := .architectural }) rfl rfl ht hu hpc
    rw [hsame, ← (exec_keepsFixed ht).params]
    rfl

/-- Settles O35: the table has no entry for such a byte. -/
theorem illegalOpcodeResult : Obligations.IllegalOpcodeResult :=
  fun i _ h => exec_unmapped ((opcodeTable_eq_none_iff i.opcode).mpr h)

/-- Settles O45: the fused Step services what the unfused one does, and goes on from there. -/
theorem fusedStepGoesOnAtTheVector : Obligations.FusedStepGoesOnAtTheVector := by
  intro s t hf hserv hfused h
  have hsome : (serviceInterrupt s.beginStep).isSome = true := (serviceInterrupt_isSome s.beginStep).trans hserv
  obtain ⟨u, hi⟩ := Option.isSome_iff_exists.mp hsome
  have hparams : u.params = s.params := (serviceInterrupt_keepsFixed hi).params
  have hunfused : serviceInterrupt (State.beginStep { s with params := { s.params with fusedInterruptStep := false } })
      = some (u.setParams { s.params with fusedInterruptStep := false }) := by
    have hserviced := serviceInterrupt_setParams (s := s.beginStep)
      (q := { s.params with fusedInterruptStep := false }) rfl
    rwa [hi] at hserviced
  have ht : u.setParams { s.params with fusedInterruptStep := false } = t := by
    rw [step_of_running (by exact hf), stepRunning_some hunfused] at h
    exact Host.Outcome.next.inj h
  have hback : { t with params := s.params } = u := by
    rw [← ht, ← hparams]
    rfl
  rw [hback, step_of_running hf, stepRunning_some hi, hparams, if_pos hfused, runInstruction_eq]

/-- Settles O48. -/
theorem effectiveAddresses : Obligations.EffectiveAddresses := by
  intro s hram pointer
  refine ⟨fun b => ⟨wordOf_zero_toNat b, rfl⟩, fun b => ⟨wordOf_zero_add_toNat b s.x, rfl⟩,
    fun b => ⟨wordOf_zero_add_toNat b s.y, rfl⟩, fun w => ⟨rfl, rfl⟩,
    fun w => ⟨indexed_toNat w s.x s, indexed_cross w s.x s⟩, fun w => ⟨indexed_toNat w s.y s, indexed_cross w s.y s⟩,
    fun b => ⟨readWordBug_zeroPage hram (BitVec.toNat_add b s.x), rfl⟩, fun b => ?_⟩
  have hpointer : (readWordBug (wordOf 0 b) s).1.toNat = pointer b.toNat :=
    readWordBug_zeroPage hram (Nat.mod_eq_of_lt b.isLt).symm
  rw [resolveMem_indy, indexed_toNat, indexed_cross, readWordBug_y, hpointer]
  exact ⟨rfl, rfl⟩

/-- Settles O60: the bytes of a self-jump, a Step from one, and three facts of runs. -/
theorem selfJumpIsANormalEnd : Obligations.SelfJumpIsANormalEnd := by
  refine ⟨fun s hram => selfJump_iff_plainRam hram, fun s hs => ?_, fun events s t e h => ?_,
    fun before after s u h => ?_, fun may start t events => runFrom_ne_fault_of_programEnds⟩
  · obtain ⟨t, hstep, hjumped⟩ := step_normalEnd hs
    exact ⟨t, hstep, hjumped.same, hjumped.cycles, fun hram => ⟨hjumped.draws hram, hjumped.normalEnd hram hs⟩⟩
  · obtain ⟨before, after, u, hevents, hgoing, hstep, hend⟩ := runFrom_ended h
    exact ⟨before, after, u, hevents, hgoing, hstep, fun he => endAt_fault (he ▸ hend),
      fun he => endAt_normal (he ▸ hend)⟩
  · obtain ⟨t, hgoing, -⟩ := runFrom_append_going h
    obtain ⟨hall, hreset⟩ := runFrom_going hgoing
    exact ⟨t, hall, hgoing, fun earlier hearlier => endAt_none (runFrom_step_going (hearlier ▸ hgoing)), hreset⟩

end Sys2Proof.Machine
end

section
/-! SUPPORT. An instruction that transfers control nowhere, whole: cycle accounting passes through every handler
(spec/30_encoding.md R117, R118), so that such an instruction is its handler, run from its state before, and the end of
a sequential instruction. One lemma for each kind of handler: `exec_reading`, `exec_writing` and `exec_implying`. -/

namespace Sys2Proof.Machine

/-! ### Cycle accounting passes through the accessors -/

theorem memRead_account (a : Word) (op : Byte) (cross : Bool) : ∀ s : State,
    memRead a (account op cross s) = ((memRead a s).1, account op cross (memRead a s).2) :=
  forall_state_of_memory fun s k => by cases k <;> rfl

theorem memWrite_account (a : Word) (v op : Byte) (cross : Bool) : ∀ s : State,
    memWrite a v (account op cross s) = account op cross (memWrite a v s) :=
  forall_state_of_memory fun s k => by cases k <;> rfl

theorem opRead_account (o : Operand) (op : Byte) (cross : Bool) (s : State) :
    opRead o (account op cross s) = ((opRead o s).1, account op cross (opRead o s).2) := by
  rcases o with v | t
  · rfl
  · cases t with
    | acc => rfl
    | mem ea => exact memRead_account ea op cross s

/-- Cycle accounting before `f` is the same accounting after it. -/
def CommutesWithAccount (f : State → State) : Prop :=
  ∀ op cross s, f (account op cross s) = account op cross (f s)

theorem commutesWithAccount_opWrite (t : Place) (v : Byte) : CommutesWithAccount (opWrite t v) := by
  cases t with
  | acc => exact fun _ _ _ => rfl
  | mem ea => exact memWrite_account ea v

/-! ### Cycle accounting passes through the handlers -/

theorem commutesWithAccount_reading {f : Byte → State → State} (hf : ∀ m, CommutesWithAccount (f m)) (o : Operand) :
    CommutesWithAccount (reading f o) := by
  intro op cross s
  rw [reading_eq, opRead_account, hf, reading_eq]

theorem commutesWithAccount_modifying (f : Byte → Flags → Byte × Flags) (t : Place) :
    CommutesWithAccount (modifying f t) := by
  intro op cross s
  rw [modifying_eq, opRead_account, modifying_eq, ← commutesWithAccount_opWrite]
  rfl

theorem commutesWithAccount_composed {f : Place → State → State} {g : Operand → State → State}
    (hf : ∀ t, CommutesWithAccount (f t)) (hg : ∀ o, CommutesWithAccount (g o)) (t : Place) :
    CommutesWithAccount (composed f g t) := by
  intro op cross s
  unfold composed
  rw [hf, hg]

theorem commutesWithAccount_of_read {mn : Mnemonic} {h : Operand → State → State} (hk : kindOf mn = .read h)
    (o : Operand) : CommutesWithAccount (h o) := by
  cases mn <;> cases hk
  all_goals exact commutesWithAccount_reading (fun _ _ _ _ => rfl) o

theorem commutesWithAccount_of_write {mn : Mnemonic} {h : Place → State → State} (hk : kindOf mn = .write h)
    (t : Place) : CommutesWithAccount (h t) := by
  cases mn <;> cases hk
  case sta | stx | sty | sax => exact fun op cross s => commutesWithAccount_opWrite t _ op cross s
  case asl | lsr | rol | ror | inc | dec => exact commutesWithAccount_modifying _ t
  case slo | rla | sre | rra | dcp | isc =>
    exact commutesWithAccount_composed (commutesWithAccount_modifying _)
      (commutesWithAccount_reading fun _ _ _ _ => rfl) t

theorem commutesWithAccount_of_implied {mn : Mnemonic} {h : State → State} (hk : kindOf mn = .implied h) :
    CommutesWithAccount h := by
  intro op cross s
  cases mn <;> cases hk
  case pha | php => exact push_account _ op cross s
  case pla => simp only [handlePla, pop_account]; rfl
  case plp => simp only [handlePlp, pop_account]; rfl
  all_goals rfl

/-! ### The resolved operand -/

/-- OpRead on the operand of a form, from the resolver's state, is the form's data read; and the page-cross bit is the
form's (R94, R108). -/
theorem readForm_dataRead {f : Form} {s u : State} {m : Byte} {r : Resolved Operand} (hr : readForm f s = some r)
    (hm : dataRead f s = some (m, u)) : opRead r.operand r.state = (m, u) ∧ r.cross = crossOf f s := by
  cases f <;> cases hr <;> cases hm
  case imm | mem => exact ⟨rfl, rfl⟩

/-- The place of a form with an effective address is memory there (R94, R109). -/
theorem writeForm_storeAddress {f : Form} {s : State} {ea : Word} {r : Resolved Place} (hr : writeForm f s = some r)
    (hea : storeAddress f s = some ea) : r = ⟨.mem ea, crossOf f s, resolvedState f s⟩ := by
  cases f <;> cases hr <;> cases hea
  case mem => rfl

/-! ### The instruction -/

theorem SameButData.cycles {s t : State} (h : SameButData s t) : t.cycles = s.cycles := by rw [h]

/-- The mnemonic of an instruction whose opcode is in a list of one mnemonic's opcodes. -/
theorem mnemonic_of_mem {i : Instr} {ops : List Byte} {mn : Mnemonic} (hi : i.opcode ∈ ops)
    (h : ∀ op ∈ ops, (opcodeTable op).map Entry.instr = some mn) : i.mnemonic = some mn :=
  mnemonic_of rfl (h i.opcode hi)

/-- Cycle accounting and the sequential PC update, after a handler that keeps PC and Cycles, are the end of a sequential
instruction (R118, R119). -/
theorem updatePc_account_sequentialEnd {i : Instr} {mn : Mnemonic} {s w : State} (hmn : i.mnemonic = some mn)
    (hw : SameButData s w) :
    updatePc i.opcode .sequential (account i.opcode (crossOf i.form s) w) = sequentialEnd i s w := by
  obtain ⟨e, he, -⟩ := Option.map_eq_some_iff.mp hmn
  exact updatePc_sequentialEnd he hw.pc (by rw [account_cycles, hw.cycles]) rfl

/-- A reading instruction is `f` on its operand byte, after the read (R108, R117). -/
theorem exec_reading {i : Instr} {mn : Mnemonic} {f : Byte → State → State} {s u : State} {m : Byte}
    (hmn : i.mnemonic = some mn) (hk : kindOf mn = .read (reading f)) (hm : dataRead i.form s = some (m, u)) :
    exec i s = .next (sequentialEnd i s (f m u)) := by
  obtain ⟨e, he, rfl⟩ := Option.map_eq_some_iff.mp hmn
  obtain ⟨r, hr, hexec⟩ := exec_read (s := s) he hk
  obtain ⟨hread, hcross⟩ := readForm_dataRead hr hm
  have hkeeps : SameButData s (f m u) :=
    (sameButPort_dataRead hm).sameButData.trans (sameButData_of_read hk (.imm m) u)
  rw [hexec, runSeq_eq, commutesWithAccount_of_read hk, reading_eq, hread, hcross,
    updatePc_account_sequentialEnd hmn hkeeps]

/-- A storing or modifying instruction of a memory form is its handler at the effective address (R109, R117). -/
theorem exec_writing {i : Instr} {mn : Mnemonic} {h : Place → State → State} {s : State} {ea : Word}
    (hmn : i.mnemonic = some mn) (hk : kindOf mn = .write h) (hea : storeAddress i.form s = some ea) :
    exec i s = .next (sequentialEnd i s (h (.mem ea) (resolvedState i.form s))) := by
  obtain ⟨e, he, rfl⟩ := Option.map_eq_some_iff.mp hmn
  obtain ⟨r, hr, hexec⟩ := exec_write (s := s) he hk
  have hkeeps : SameButData s (h (.mem ea) (resolvedState i.form s)) :=
    (sameButPort_resolvedState i.form s).sameButData.trans (sameButData_of_write hk (.mem ea) _)
  rw [hexec, writeForm_storeAddress hr hea, runSeq_eq, commutesWithAccount_of_write hk,
    updatePc_account_sequentialEnd hmn hkeeps]

/-- An instruction with no operand is its handler (R95, R117). -/
theorem exec_implying {i : Instr} {mn : Mnemonic} {h : State → State} (hmn : i.mnemonic = some mn)
    (hk : kindOf mn = .implied h) (s : State) : exec i s = .next (sequentialEnd i s (h s)) := by
  obtain ⟨e, he, rfl⟩ := Option.map_eq_some_iff.mp hmn
  obtain ⟨hform, hexec⟩ := exec_implied (s := s) he hk
  have hcross : crossOf i.form s = false := by rw [hform]; rfl
  rw [hexec, runImplied_eq, commutesWithAccount_of_implied hk, ← hcross,
    updatePc_account_sequentialEnd hmn (sameButData_of_implied hk s)]

end Sys2Proof.Machine
end

section
/-! SUPPORT. The obligations of spec/41_load_store_transfer.md that are settled: O8, O9 and O10. -/

namespace Sys2Proof.Machine

/-- Settles O8: each handler loads the byte it reads, and the read keeps P. -/
theorem loadResult : Obligations.LoadResult := by
  intro i s u m hm
  have hp : u.p = s.p := (sameButPort_dataRead hm).p
  simp only [← setNZ_eq, ← hp]
  exact ⟨fun hi => exec_reading (mnemonic_of_mem (mn := .lda) hi (by decide)) rfl hm,
    fun hi => exec_reading (mnemonic_of_mem (mn := .ldx) hi (by decide)) rfl hm,
    fun hi => exec_reading (mnemonic_of_mem (mn := .ldy) hi (by decide)) rfl hm,
    fun hi => exec_reading (mnemonic_of_mem (mn := .lax) hi (by decide)) rfl hm⟩

/-- Settles O9: each handler is one write at the effective address, and the resolver keeps the registers. -/
theorem storeResult : Obligations.StoreResult := by
  intro i s ea hea
  have hport : SameButPort s (resolvedState i.form s) := sameButPort_resolvedState i.form s
  simp only [← hport.a, ← hport.x, ← hport.y]
  exact ⟨fun hi => exec_writing (mnemonic_of_mem (mn := .sta) hi (by decide)) rfl hea,
    fun hi => exec_writing (mnemonic_of_mem (mn := .stx) hi (by decide)) rfl hea,
    fun hi => exec_writing (mnemonic_of_mem (mn := .sty) hi (by decide)) rfl hea,
    fun hi => exec_writing (mnemonic_of_mem (mn := .sax) hi (by decide)) rfl hea⟩

/-- Settles O10: each handler copies its register, with SetNZ but for TXS. -/
theorem transferResult : Obligations.TransferResult := by
  intro i s
  simp only [← setNZ_eq]
  exact ⟨fun hi => exec_implying (mnemonic_of (mn := .tax) hi rfl) rfl s,
    fun hi => exec_implying (mnemonic_of (mn := .tay) hi rfl) rfl s,
    fun hi => exec_implying (mnemonic_of (mn := .txa) hi rfl) rfl s,
    fun hi => exec_implying (mnemonic_of (mn := .tya) hi rfl) rfl s,
    fun hi => exec_implying (mnemonic_of (mn := .tsx) hi rfl) rfl s,
    fun hi => exec_implying (mnemonic_of (mn := .txs) hi rfl) rfl s⟩

end Sys2Proof.Machine
end

section
/-! SUPPORT. The flag computations of spec/42_alu.md in the terms of its rules: each result as a number modulo 256, C as
the bit shifted off or the comparison, V as a comparison of signs; and SBC as ADC of the complement. -/

namespace Sys2Proof.Machine

/-! ### Addition, subtraction and comparison -/

/-- ADC in wide arithmetic (R181). -/
theorem addWithCarry_eq (a m : Byte) (p : Flags) :
    addWithCarry a m p =
      let sum := a.toNat + m.toNat + p.c.toNat
      let r : Byte := BitVec.ofNat 8 sum
      (r, { p with
        c := decide (sum > 255)
        v := decide (a.msb = m.msb ∧ a.msb ≠ r.msb)
        z := decide (r = 0)
        n := r.msb }) := by
  simp only [addWithCarry, setNZ_eq, bne, xor_and_signBit_beq_zero]
  simp only [Bool.beq_eq_decide_eq, Bool.decide_and, decide_not]

/-- SBC in wide signed arithmetic (R182). -/
theorem subWithBorrow_eq (a m : Byte) (p : Flags) :
    subWithBorrow a m p =
      let diff : Int := (a.toNat : Int) - m.toNat - (1 - p.c.toNat)
      let r : Byte := BitVec.ofInt 8 diff
      (r, { p with
        c := decide (diff ≥ 0)
        v := decide (a.msb ≠ m.msb ∧ a.msb ≠ r.msb)
        z := decide (r = 0)
        n := r.msb }) := by
  simp only [subWithBorrow, setNZ_eq, bne, xor_and_signBit_beq_zero]
  simp only [Bool.beq_eq_decide_eq, Bool.decide_and, decide_not]

/-- The wide difference and the wide sum with the complement are 256 apart, so the borrow is the carry and the operands
differ in sign where those of the sum agree (R182). -/
theorem subWithBorrow_eq_addWithCarry_not (a m : Byte) (p : Flags) : subWithBorrow a m p = addWithCarry a (~~~m) p := by
  have hm : (~~~m).toNat = 255 - m.toNat := BitVec.toNat_not
  have hlt : m.toNat < 256 := m.isLt
  have hcarry : p.c.toNat ≤ 1 := Bool.toNat_le p.c
  have hresult : BitVec.ofInt 8 ((a.toNat : Int) - m.toNat - (1 - p.c.toNat)) =
      BitVec.ofNat 8 (a.toNat + (~~~m).toNat + p.c.toNat) := by
    apply BitVec.eq_of_toNat_eq
    rw [BitVec.toNat_ofInt, BitVec.toNat_ofNat]
    omega
  have hborrow : (a.toNat : Int) - m.toNat - (1 - p.c.toNat) ≥ 0 ↔ a.toNat + (~~~m).toNat + p.c.toNat > 255 := by
    omega
  have hsigns : a.msb = (~~~m).msb ↔ a.msb ≠ m.msb := by
    rw [BitVec.msb_not]
    cases a.msb <;> cases m.msb <;> decide
  simp only [subWithBorrow_eq, addWithCarry_eq, hresult, hborrow, hsigns]

/-- Compare's Z is equality, since the difference of two bytes is zero only for equal ones (R187). -/
theorem compareFlags_eq (reg m : Byte) (p : Flags) :
    compareFlags reg m p =
      { p with c := decide (m.toNat ≤ reg.toNat), z := decide (reg = m), n := (reg - m).msb } := by
  have hz : reg - m = 0 ↔ reg = m := sub_eq_zero
  simp only [compareFlags, setNZ_eq, hz, ge_iff_le]

/-- BIT's Z as a proposition on the byte (R186). -/
theorem bitFlags_eq (a m : Byte) (p : Flags) :
    bitFlags a m p = { p with z := decide ((a &&& m) = 0), n := m.getLsbD 7, v := m.getLsbD 6 } := rfl

/-! ### Increment, decrement, shifts and rotates -/

theorem increment_eq (v : Byte) (p : Flags) :
    increment v p = (v + 1, { p with z := decide (v + 1 = 0), n := (v + 1).msb }) := by
  rw [← setNZ_eq]
  rfl

theorem decrement_eq (v : Byte) (p : Flags) :
    decrement v p = (v - 1, { p with z := decide (v - 1 = 0), n := (v - 1).msb }) := by
  rw [← setNZ_eq]
  rfl

theorem byte_shiftLeft_one (v : Byte) : v <<< 1 = BitVec.ofNat 8 (2 * v.toNat) := by
  apply BitVec.eq_of_toNat_eq
  rw [BitVec.toNat_shiftLeft, BitVec.toNat_ofNat, Nat.shiftLeft_eq, Nat.mul_comm]

theorem byte_ushiftRight_one (v : Byte) : v >>> 1 = BitVec.ofNat 8 (v.toNat / 2) := by
  apply BitVec.eq_of_toNat_eq
  have hlt : v.toNat < 256 := v.isLt
  rw [BitVec.toNat_ushiftRight, BitVec.toNat_ofNat, Nat.shiftRight_eq_div_pow]
  omega

/-- The bit that a left shift has emptied takes the carry by addition (R200). -/
theorem byte_shiftLeft_one_or_carry (v : Byte) (c : Bool) :
    (v <<< 1) ||| BitVec.ofNat 8 c.toNat = BitVec.ofNat 8 (2 * v.toNat + c.toNat) := by
  have hcarry : c.toNat < 2 ^ 1 := Bool.toNat_lt c
  have hlow : v <<< 1 = BitVec.ofNat 8 (2 ^ 1 * (v.toNat % 128)) := by
    rw [byte_shiftLeft_one]
    apply BitVec.eq_of_toNat_eq
    simp only [BitVec.toNat_ofNat]
    omega
  rw [hlow, ← BitVec.ofNat_or, ← Nat.two_pow_add_eq_or_of_lt hcarry]
  apply BitVec.eq_of_toNat_eq
  simp only [BitVec.toNat_ofNat]
  omega

/-- The bit that a right shift has emptied takes the carry by addition (R201). -/
theorem byte_ushiftRight_one_or_carry (v : Byte) (c : Bool) :
    (v >>> 1) ||| BitVec.ofNat 8 (c.toNat * 0x80) = BitVec.ofNat 8 (v.toNat / 2 + 128 * c.toNat) := by
  have hlow : v.toNat / 2 < 2 ^ 7 := by have := v.isLt; omega
  rw [byte_ushiftRight_one, ← BitVec.ofNat_or, Nat.or_comm, Nat.mul_comm, ← Nat.two_pow_add_eq_or_of_lt hlow,
    Nat.add_comm]

/-- ASL in arithmetic (R198). -/
theorem shiftLeft_eq (v : Byte) (p : Flags) :
    shiftLeft v p =
      let r : Byte := BitVec.ofNat 8 (2 * v.toNat)
      (r, { p with c := v.msb, z := decide (r = 0), n := r.msb }) := by
  simp only [shiftLeft, setNZ_eq, byte_shiftLeft_one, BitVec.msb_eq_getLsbD_last]

/-- LSR in arithmetic (R199). -/
theorem shiftRight_eq (v : Byte) (p : Flags) :
    shiftRight v p =
      let r : Byte := BitVec.ofNat 8 (v.toNat / 2)
      (r, { p with c := v.getLsbD 0, z := decide (r = 0), n := r.msb }) := by
  simp only [shiftRight, setNZ_eq, byte_ushiftRight_one]

/-- ROL in arithmetic (R200). -/
theorem rotateLeft_eq (v : Byte) (p : Flags) :
    rotateLeft v p =
      let r : Byte := BitVec.ofNat 8 (2 * v.toNat + p.c.toNat)
      (r, { p with c := v.msb, z := decide (r = 0), n := r.msb }) := by
  simp only [rotateLeft, setNZ_eq, byte_shiftLeft_one_or_carry, BitVec.msb_eq_getLsbD_last]

/-- ROR in arithmetic (R201). -/
theorem rotateRight_eq (v : Byte) (p : Flags) :
    rotateRight v p =
      let r : Byte := BitVec.ofNat 8 (v.toNat / 2 + 128 * p.c.toNat)
      (r, { p with c := v.getLsbD 0, z := decide (r = 0), n := r.msb }) := by
  simp only [rotateRight, setNZ_eq, byte_ushiftRight_one_or_carry]

end Sys2Proof.Machine
end

section
/-! SUPPORT. The instructions of spec/42_alu.md, whole: ADC, SBC with the unofficial $EB, and a read-modify-write of the
accumulator (`exec_modifying_acc`) and of memory (`exec_modifying_mem`). -/

namespace Sys2Proof.Machine

theorem exec_adc {i : Instr} {s u : State} {m : Byte} (hmn : i.mnemonic = some .adc)
    (hm : dataRead i.form s = some (m, u)) :
    exec i s = .next (sequentialEnd i s (intoA (addWithCarry s.a m s.p) u)) := by
  have hport : SameButPort s u := sameButPort_dataRead hm
  rw [← hport.a, ← hport.p]
  exact exec_reading hmn rfl hm

/-- SBC and the unofficial $EB have one handler (R182, R299). -/
theorem exec_sbc {i : Instr} {s u : State} {m : Byte} (hmn : i.mnemonic = some .sbc ∨ i.mnemonic = some .sbcUnofficial)
    (hm : dataRead i.form s = some (m, u)) :
    exec i s = .next (sequentialEnd i s (intoA (subWithBorrow s.a m s.p) u)) := by
  have hport : SameButPort s u := sameButPort_dataRead hm
  rw [← hport.a, ← hport.p]
  rcases hmn with hsbc | heb
  · exact exec_reading hsbc rfl hm
  · exact exec_reading heb rfl hm

theorem form_acc_of_opcode {i : Instr} {op : Byte} (hi : i.opcode = op)
    (hmode : (opcodeTable op).map Entry.mode = some .acc) : i.form = .acc := by
  subst hi
  obtain ⟨e, he, hacc⟩ := Option.map_eq_some_iff.mp hmode
  have hform : i.form.mode = .acc := (mode_of_entry he).symm.trans hacc
  cases hf : i.form with
  | acc => rfl
  | mem m => cases m <;> rw [hf] at hform <;> cases hform
  | _ => rw [hf] at hform; cases hform

/-- A read-modify-write instruction of the accumulator is its flag computation, and touches no memory (R197). -/
theorem exec_modifying_acc {i : Instr} {mn : Mnemonic} {f : Byte → Flags → Byte × Flags} {s : State} {r : Byte}
    {q : Flags} (hmn : i.mnemonic = some mn) (hk : kindOf mn = .write (modifying f)) (hform : i.form = .acc)
    (hf : f s.a s.p = (r, q)) : exec i s = .next (sequentialEnd i s { s with a := r, p := q }) := by
  obtain ⟨e, he, rfl⟩ := Option.map_eq_some_iff.mp hmn
  obtain ⟨place, hplace, hexec⟩ := exec_write (s := s) he hk
  have hcross : crossOf i.form s = false := by rw [hform]; rfl
  rw [hform] at hplace
  cases hplace
  rw [hexec, runSeq_eq, commutesWithAccount_of_write hk]
  simp only [accPlace, ← hcross, modifying_acc, hf]
  exact congrArg Host.Outcome.next (updatePc_account_sequentialEnd hmn rfl)

theorem memWrite_setP (a : Word) (v : Byte) (q : Flags) : ∀ s : State,
    memWrite a v (s.setP q) = (memWrite a v s).setP q :=
  forall_state_of_memory fun s k => by cases k <;> rfl

/-- A read-modify-write instruction of memory is one read and one write of its effective address, with the flags of its
flag computation (R180). -/
theorem exec_modifying_mem {i : Instr} {mn : Mnemonic} {f : Byte → Flags → Byte × Flags} {s u : State} {ea : Word}
    {v r : Byte} {q : Flags} (hmn : i.mnemonic = some mn) (hk : kindOf mn = .write (modifying f))
    (hea : storeAddress i.form s = some ea) (hread : memRead ea (resolvedState i.form s) = (v, u))
    (hf : f v s.p = (r, q)) : exec i s = .next (sequentialEnd i s { memWrite ea r u with p := q }) := by
  have hport : SameButPort (resolvedState i.form s) u := by
    simpa only [hread] using sameButPort_memRead ea (resolvedState i.form s)
  have hp : u.p = s.p := ((sameButPort_resolvedState i.form s).trans hport).p
  rw [exec_writing hmn hk hea, modifying_eq]
  simp only [opRead, hread, hp, hf, opWrite, memWrite_setP]
  rfl

end Sys2Proof.Machine
end

section
/-! SUPPORT. The obligations of spec/42_alu.md that are settled: O11, O12, O13, O15, O16, O17, O18, O19, O20 and O21. -/

namespace Sys2Proof.Machine

/-- Settles O11, from ADC in wide arithmetic. -/
theorem adcResult : Obligations.AdcResult := by
  intro i s u m hm hi
  rw [exec_adc (mnemonic_of_mem hi (by decide)) hm, addWithCarry_eq]
  rfl

/-- Settles O12, from SBC in wide signed arithmetic; the unofficial $EB has SBC's handler. -/
theorem sbcResult : Obligations.SbcResult := by
  intro i s u m hm hi
  have hmn : i.mnemonic = some .sbc ∨ i.mnemonic = some .sbcUnofficial :=
    (by decide : ∀ op ∈ ([0xE1, 0xE5, 0xE9, 0xEB, 0xED, 0xF1, 0xF5, 0xF9, 0xFD] : List Byte),
      (opcodeTable op).map Entry.instr = some .sbc ∨ (opcodeTable op).map Entry.instr = some .sbcUnofficial) _ hi
  rw [exec_sbc hmn hm, subWithBorrow_eq]
  rfl

/-- Settles O13: the subtraction is the addition of the complement, and the three opcodes have one size and one cost. -/
theorem sbcIsAdcOfTheComplement : Obligations.SbcIsAdcOfTheComplement := by
  intro m s
  have hnot : m ^^^ 0xFF = ~~~m := BitVec.xor_allOnes
  constructor
  · rw [exec_sbcImm, exec_adcImm, hnot, subWithBorrow_eq_addWithCarry_not]
    rfl
  · rfl

/-- Settles O15: each handler combines A with the byte it reads, and the read keeps A and P. -/
theorem logicResult : Obligations.LogicResult := by
  intro i s u m hm
  have hport : SameButPort s u := sameButPort_dataRead hm
  simp only [← hport.a, ← hport.p, ← setNZ_eq]
  exact ⟨fun hi => exec_reading (mnemonic_of_mem (mn := .and) hi (by decide)) rfl hm,
    fun hi => exec_reading (mnemonic_of_mem (mn := .ora) hi (by decide)) rfl hm,
    fun hi => exec_reading (mnemonic_of_mem (mn := .eor) hi (by decide)) rfl hm⟩

/-- Settles O16: the handler sets the flags from A and the byte it reads. -/
theorem bitResult : Obligations.BitResult := by
  intro i s u m hm hi
  have hport : SameButPort s u := sameButPort_dataRead hm
  simp only [← hport.a, ← hport.p, ← bitFlags_eq]
  exact exec_reading (mnemonic_of_mem (mn := .bit) hi (by decide)) rfl hm

/-- Settles O17: each handler compares its register with the byte it reads. -/
theorem compareResult : Obligations.CompareResult := by
  intro i s u m hm
  have hport : SameButPort s u := sameButPort_dataRead hm
  simp only [← hport.a, ← hport.x, ← hport.y, ← hport.p, ← compareFlags_eq]
  exact ⟨fun hi => exec_reading (mnemonic_of_mem (mn := .cmp) hi (by decide)) rfl hm,
    fun hi => exec_reading (mnemonic_of_mem (mn := .cpx) hi (by decide)) rfl hm,
    fun hi => exec_reading (mnemonic_of_mem (mn := .cpy) hi (by decide)) rfl hm⟩

/-- Settles O18: both are read-modify-writes of memory. -/
theorem incrementDecrementMemoryResult : Obligations.IncrementDecrementMemoryResult := by
  intro i s ea hea
  rcases hread : memRead ea (resolvedState i.form s) with ⟨v, u⟩
  exact ⟨fun hi => exec_modifying_mem (mnemonic_of_mem (mn := .inc) hi (by decide)) rfl hea hread (increment_eq v s.p),
    fun hi => exec_modifying_mem (mnemonic_of_mem (mn := .dec) hi (by decide)) rfl hea hread (decrement_eq v s.p)⟩

/-- Settles O19: each handler steps its register, with SetNZ. -/
theorem incrementDecrementRegisterResult : Obligations.IncrementDecrementRegisterResult := by
  intro i s
  simp only [← setNZ_eq]
  exact ⟨fun hi => exec_implying (mnemonic_of (mn := .inx) hi rfl) rfl s,
    fun hi => exec_implying (mnemonic_of (mn := .iny) hi rfl) rfl s,
    fun hi => exec_implying (mnemonic_of (mn := .dex) hi rfl) rfl s,
    fun hi => exec_implying (mnemonic_of (mn := .dey) hi rfl) rfl s⟩

/-- Settles O20: the four are read-modify-writes of the accumulator. -/
theorem shiftAccumulatorResult : Obligations.ShiftAccumulatorResult := by
  intro i s
  exact ⟨fun hi => exec_modifying_acc (mnemonic_of (mn := .asl) hi rfl) rfl (form_acc_of_opcode hi rfl)
      (shiftLeft_eq s.a s.p),
    fun hi => exec_modifying_acc (mnemonic_of (mn := .lsr) hi rfl) rfl (form_acc_of_opcode hi rfl)
      (shiftRight_eq s.a s.p),
    fun hi => exec_modifying_acc (mnemonic_of (mn := .rol) hi rfl) rfl (form_acc_of_opcode hi rfl)
      (rotateLeft_eq s.a s.p),
    fun hi => exec_modifying_acc (mnemonic_of (mn := .ror) hi rfl) rfl (form_acc_of_opcode hi rfl)
      (rotateRight_eq s.a s.p)⟩

/-- Settles O21: the four are read-modify-writes of memory, with the flag computations of the accumulator forms. -/
theorem shiftMemoryResult : Obligations.ShiftMemoryResult := by
  intro i s ea hea
  rcases hread : memRead ea (resolvedState i.form s) with ⟨v, u⟩
  exact ⟨fun hi => exec_modifying_mem (mnemonic_of_mem (mn := .asl) hi (by decide)) rfl hea hread (shiftLeft_eq v s.p),
    fun hi => exec_modifying_mem (mnemonic_of_mem (mn := .lsr) hi (by decide)) rfl hea hread (shiftRight_eq v s.p),
    fun hi => exec_modifying_mem (mnemonic_of_mem (mn := .rol) hi (by decide)) rfl hea hread (rotateLeft_eq v s.p),
    fun hi => exec_modifying_mem (mnemonic_of_mem (mn := .ror) hi (by decide)) rfl hea hread (rotateRight_eq v s.p)⟩

end Sys2Proof.Machine
end

section
/-! SUPPORT. An instruction from its opcode and form; a transfer's PC update as `landing` (spec/30_encoding.md R119,
R120); and the branches and the subroutine instructions of spec/43_control_transfer.md, whole. -/

namespace Sys2Proof.Machine

/-! ### The instruction of an opcode -/

/-- The encoder writes the opcode and the form, and the decoder undoes it (R90). -/
theorem instr_eq_of_opcode_form {i j : Instr} (hop : i.opcode = j.opcode) (hform : i.form = j.form) : i = j := by
  have hbytes : encode i = encode j := by rw [encode, encode, hop, hform]
  have hdecode : decode (encode i ++ []) = .ok (i, []) := decode_encode i []
  rw [hbytes, decode_encode j []] at hdecode
  cases hdecode
  rfl

/-- An opcode byte that the decoder takes for an instruction with no operand byte is that instruction's alone. -/
theorem instr_eq_of_decodeOpcode_bare {i j : Instr} (h : decodeOpcode i.opcode = .bare j) : i = j := by
  have hbegins := decodeOpcode_begins i
  rw [h] at hbegins
  cases hbegins
  rfl

/-! ### The PC update of a transfer -/

/-- A transfer, JMP's excepted, goes where `landing` says (R119, R120). -/
theorem updatePc_landing {op : Byte} (hjmp : isJmp op = false) (t : Word) (s : State) :
    updatePc op (.transfer t) s = s.setPc (landing (BitVec.ofNat 16 (opSize op)) t s) := by
  unfold updatePc landing
  cases s.params.pcUpdate <;> simp [hjmp]

/-- Only a transfer to the instruction itself, and only under `SourceHeuristic`, misses its target (R120). -/
theorem landing_eq_target {t : Word} {s : State} (h : s.params.pcUpdate = .architectural ∨ t ≠ s.pc) (size : Word) :
    landing size t s = t := by
  apply if_neg
  rintro ⟨hmode, hself⟩
  rcases h with harch | hne
  · rw [hmode] at harch
    cases harch
  · exact hne hself

/-! ### The branches -/

/-- Where the two modes agree, a taken branch charges one cycle, and one more when its target is on another page
(R230). -/
theorem branch_charge {t : Word} {s : State} (h : s.params.pcUpdate = .architectural ∨ t ≠ s.pc) :
    1 + (branchCrossCharged t s).toNat = if page (s.pc + 2) = page t then 1 else 2 := by
  have hcharged : branchCrossCharged t s = (page (s.pc + 2) != page t) := by
    rcases h with harch | hne
    · rw [branchCrossCharged, harch, Bool.and_true]
    · exact branchCrossCharged_of_ne hne
  rw [hcharged]
  split
  next hsame => rw [bne_eq_false_iff_eq.mpr hsame, Bool.toNat_false]
  next hother => rw [bne_iff_ne.mpr hother, Bool.toNat_true]

/-- A branch not taken goes on for the table's 2 cycles (R230). -/
theorem run_branch_untaken {op : Byte} (hop : op ∈ branchOpcodes) {cond : Flags → Bool} {off : Byte} {s : State}
    (h : cond s.p = false) :
    run op (relTarget off s) (branch cond) = .next { s with pc := s.pc + 2, cycles := s.cycles + 2 } := by
  obtain ⟨hbase, -, hsize, -⟩ := branchOpcodes_rows op hop
  rw [run_eq, branch_untaken (by exact h)]
  simp [updatePc, account, addCycles, State.setCycles, State.setPc, relTarget, hbase, hsize]

/-- A taken branch goes to its target for 3 cycles, 4 on a page cross (R230), where the two modes agree. -/
theorem run_branch_taken {op : Byte} (hop : op ∈ branchOpcodes) {cond : Flags → Bool} {off : Byte} {s : State}
    {t : Word} (htarget : s.pc + 2 + off.signExtend 16 = t) (htaken : cond s.p = true)
    (hmode : s.params.pcUpdate = .architectural ∨ t ≠ s.pc) :
    run op (relTarget off s) (branch cond) =
      .next { s with pc := t, cycles := s.cycles + (if page (s.pc + 2) = page t then 3 else 4) } := by
  obtain ⟨hbase, -, -, hjmp⟩ := branchOpcodes_rows op hop
  have hbranch : branch cond t (account op false s) =
      (.transfer t, addCycles (if page (s.pc + 2) = page t then 1 else 2) (account op false s)) := by
    rw [branch_taken (by exact htaken), branch_charge (by exact hmode)]
    rfl
  rw [run_eq]
  simp only [relTarget, sext16, htarget]
  rw [hbranch, updatePc_landing hjmp, landing_eq_target (by exact hmode)]
  split <;> simp [account, addCycles, State.setCycles, State.setPc, hbase, BitVec.add_assoc]

/-! ### JSR and RTS -/

theorem SameButData.params {s t : State} (h : SameButData s t) : t.params = s.params := by rw [h]

/-- The PC update and the table's cycles of a transfer that is no JMP's, after a handler that keeps PC, Cycles and the
parameters (R117 to R120). -/
theorem updatePc_account_landing {op : Byte} (hjmp : isJmp op = false) {s u : State} (hu : SameButData s u)
    (t : Word) :
    updatePc op (.transfer t) (account op false u) = { u with
      pc := landing (BitVec.ofNat 16 (opSize op)) t s
      cycles := s.cycles + BitVec.ofNat 64 (baseCycles op) } := by
  rw [updatePc_landing hjmp]
  simp [landing, account, addCycles, State.setCycles, State.setPc, hu.pc, hu.cycles, hu.params]

end Sys2Proof.Machine
end

section
/-! SUPPORT. The obligations of spec/43_control_transfer.md that are settled: O22, O24 and O25. -/

namespace Sys2Proof.Machine

/-- Settles O22: each is `branch` on its condition, and the case left out is the only one in which the modes differ. -/
theorem branchResult : Obligations.BranchResult := by
  intro s off i taken hi t
  obtain ⟨op, hop, cond, rfl, hexec⟩ := exec_branch hi
  rw [hexec]
  exact ⟨run_branch_untaken hop, run_branch_taken hop rfl⟩

/-- Settles O24: the opcode and the form leave one instruction, and R120 excepts JMP. -/
theorem jumpResult : Obligations.JumpResult := by
  intro i s addr
  refine ⟨fun hop hform => ?_, fun hop hform => ?_⟩
  · obtain rfl : i = .jmpAbs addr := instr_eq_of_opcode_form hop hform
    exact exec_jmpAbs addr s
  · obtain rfl : i = .jmpInd addr := instr_eq_of_opcode_form hop hform
    exact exec_jmpInd addr s

/-- Settles O25: the pushes and the pops keep what the PC update and the cycle accounting use. -/
theorem subroutineResult : Obligations.SubroutineResult := by
  intro i s addr
  refine ⟨fun hop hform => ?_, fun hop => ?_⟩
  · obtain rfl : i = .jsr addr := instr_eq_of_opcode_form hop hform
    rw [exec_jsr, updatePc_account_landing rfl (sameButData_push16 (s.pc + 2) s)]
    rfl
  · obtain rfl : i = .rts := instr_eq_of_decodeOpcode_bare (by rw [hop]; rfl)
    rw [exec_rts, updatePc_account_landing rfl (sameButData_pop16 s)]
    rfl

end Sys2Proof.Machine
end

section
/-! SUPPORT. The instructions of spec/44_stack_flags_system.md, whole: a NOP, whose resolver reads no pointer; and BRK
and RTI, whose transfers end as `landing` says (spec/30_encoding.md R119, R120). -/

namespace Sys2Proof.Machine

/-! ### The NOPs -/

/-- Whether the resolver of a mode reads pointer bytes: (abs), (zp,X) and (zp),Y (R94, R104 to R106). -/
def readsPointer : Mode → Bool
  | .ind | .indx | .indy => true
  | _ => false

/-- A resolver that reads no pointer leaves the state as it is (R94). -/
theorem resolvedState_of_readsPointer {f : Form} (h : readsPointer f.mode = false) (s : State) :
    resolvedState f s = s := by
  cases f with
  | mem m =>
    cases m with
    | indx | indy => cases h
    | zp | zpx | zpy | abs | absx | absy => rfl
  | ind => cases h
  | imp | acc | imm | rel => rfl

/-- An instruction whose rule has no pseudocode, in a mode that reads no pointer, only advances PC and charges its
cycles (R271, R300). -/
theorem exec_ignoring {i : Instr} {e : Entry} (he : i.entry = some e) (hk : kindOf e.instr = .ignore)
    (hmode : readsPointer e.mode = false) (s : State) : exec i s = .next (sequentialEnd i s s) := by
  have hmn : i.mnemonic = some e.instr := congrArg (Option.map Entry.instr) he
  have hresolved : resolvedState i.form s = s := resolvedState_of_readsPointer (mode_of_entry he ▸ hmode) s
  rw [exec_ignore he hk, hresolved, updatePc_account_sequentialEnd hmn (SameButData.refl s)]

/-- The opcode bytes of the official NOP and of the 27 unofficial ones (R271, R300). -/
def nopOpcodes : List Byte :=
  [0x04, 0x0C, 0x14, 0x1A, 0x1C, 0x34, 0x3A, 0x3C, 0x44, 0x54, 0x5A, 0x5C, 0x64, 0x74, 0x7A, 0x7C, 0x80, 0x82, 0x89,
    0xC2, 0xD4, 0xDA, 0xDC, 0xE2, 0xEA, 0xF4, 0xFA, 0xFC]

/-- The rows of the NOPs (R111): none is in a mode that reads a pointer. -/
theorem nopOpcodes_rows : ∀ op ∈ nopOpcodes, ∃ e, opcodeTable op = some e ∧
    (e.instr = .nop ∨ e.instr = .nopUnofficial) ∧ readsPointer e.mode = false := by
  have hrows : ∀ op ∈ nopOpcodes, (opcodeTable op).any
      (fun e => (e.instr == .nop || e.instr == .nopUnofficial) && !readsPointer e.mode) = true := by decide
  simpa [Option.any_eq_true] using hrows

/-! ### BRK and RTI -/

/-- The pushes write no flag, so the handler's P is the P before with I set (R272, R328). -/
theorem enterHandler_eq (ret : Word) (status : Byte) (s : State) :
    enterHandler ret status s = (push status (push16 ret s)).setP { s.p with i := true } := by
  simp only [enterHandler, push_p, push16_p]

/-- The popped flags are no part of the address that is then popped, nor of its two reads (R273). -/
theorem returnFromInterrupt_eq (s : State) :
    returnFromInterrupt s =
      ((pop16 (pop s).2).1,
       (((pop16 (pop s).2).2.setP (loadedFlags (pop s).1)).setNmiRunning false).setIrqRunning false) := by
  simp only [returnFromInterrupt_spec, pop16_spec, pop_setP]

end Sys2Proof.Machine
end

section
/-! SUPPORT. The obligations of spec/44_stack_flags_system.md that are settled: O27, O28, O29, O30 and O31. -/

namespace Sys2Proof.Machine

/-- Settles O27: each handler is one push, or one pop and what it loads, and the pop keeps P. -/
theorem stackInstructionResult : Obligations.StackInstructionResult := by
  intro i s
  simp only [← setNZ_eq]
  exact ⟨fun hi => exec_implying (mnemonic_of (mn := .pha) hi rfl) rfl s,
    fun hi => exec_implying (mnemonic_of (mn := .php) hi rfl) rfl s,
    fun hi => by
      rw [← pop_p s]
      exact exec_implying (mnemonic_of (mn := .pla) hi rfl) rfl s,
    fun hi => exec_implying (mnemonic_of (mn := .plp) hi rfl) rfl s⟩

/-- Settles O28: each handler writes its flag. -/
theorem flagInstructionResult : Obligations.FlagInstructionResult := by
  intro i s
  exact ⟨fun hi => exec_implying (mnemonic_of (mn := .clc) hi rfl) rfl s,
    fun hi => exec_implying (mnemonic_of (mn := .cld) hi rfl) rfl s,
    fun hi => exec_implying (mnemonic_of (mn := .cli) hi rfl) rfl s,
    fun hi => exec_implying (mnemonic_of (mn := .clv) hi rfl) rfl s,
    fun hi => exec_implying (mnemonic_of (mn := .sec) hi rfl) rfl s,
    fun hi => exec_implying (mnemonic_of (mn := .sed) hi rfl) rfl s,
    fun hi => exec_implying (mnemonic_of (mn := .sei) hi rfl) rfl s⟩

/-- Settles O29: each is a row of a NOP in a mode that reads no pointer. -/
theorem nopResult : Obligations.NopResult := by
  intro i s hi
  obtain ⟨e, he, hinstr, hmode⟩ := nopOpcodes_rows i.opcode hi
  have hk : kindOf e.instr = .ignore := by rcases hinstr with h | h <;> rw [h] <;> rfl
  exact exec_ignoring he hk hmode s

/-- Settles O30: the pushes keep what the PC update and the cycle accounting use. -/
theorem brkResult : Obligations.BrkResult := by
  intro i s hop
  obtain rfl : i = .brk := instr_eq_of_decodeOpcode_bare (by rw [hop]; rfl)
  rw [exec_brk, updatePc_account_landing rfl (sameButData_enterHandler (s.pc + 2) (softwareStatus s.p) s), enterHandler_eq]
  rfl

/-- Settles O31: the pops keep what the PC update and the cycle accounting use. -/
theorem rtiResult : Obligations.RtiResult := by
  intro i s hop
  obtain rfl : i = .rti := instr_eq_of_decodeOpcode_bare (by rw [hop]; rfl)
  have hpops : SameButData s (pop16 (pop s).2).2 := (sameButData_pop s).trans (sameButData_pop16 _)
  rw [exec_rti, updatePc_landing rfl, returnFromInterrupt_eq]
  simp only [landing, account, addCycles, State.setCycles, State.setP, State.setNmiRunning, State.setIrqRunning,
    State.setPc, hpops.pc, hpops.cycles, hpops.params]
  rfl

end Sys2Proof.Machine
end

section
/-! SUPPORT. A combined instruction of spec/45_unofficial.md, whole (R290): `exec_composed` for any second handler,
`exec_composed_intoA` for one that puts a result in A with its flags, and `exec_composed_logic` for ORA, AND and EOR. -/

namespace Sys2Proof.Machine

theorem memRead_setP (a : Word) (q : Flags) : ∀ s : State,
    memRead a (s.setP q) = ((memRead a s).1, (memRead a s).2.setP q) :=
  forall_state_of_memory fun s k => by cases k <;> rfl

theorem sameButPort_of_memRead {a : Word} {s u : State} {v : Byte} (h : memRead a s = (v, u)) : SameButPort s u := by
  simpa only [h] using sameButPort_memRead a s

section
variable {i : Instr} {mn : Mnemonic} {f : Byte → Flags → Byte × Flags} {s u x : State} {ea : Word} {v r m : Byte}
  {q : Flags}

/-- The port calls of a combined instruction leave A alone. -/
theorem read_write_read_a (hread : memRead ea (resolvedState i.form s) = (v, u))
    (hagain : memRead ea (memWrite ea r u) = (m, x)) : x.a = s.a := by
  rw [(sameButPort_of_memRead hagain).a, memWrite_a, (sameButPort_of_memRead hread).a,
    (sameButPort_resolvedState i.form s).a]

/-- A combined instruction reads its effective address, writes there what its first handler computes, reads there again,
and runs its second handler on that byte with the first one's flags (R290). -/
theorem exec_composed {g : Byte → State → State} (hmn : i.mnemonic = some mn)
    (hk : kindOf mn = .write (composed (modifying f) (reading g))) (hea : storeAddress i.form s = some ea)
    (hread : memRead ea (resolvedState i.form s) = (v, u)) (hf : f v s.p = (r, q))
    (hagain : memRead ea (memWrite ea r u) = (m, x)) :
    exec i s = .next (sequentialEnd i s (g m (x.setP q))) := by
  have hp : u.p = s.p := ((sameButPort_resolvedState i.form s).trans (sameButPort_of_memRead hread)).p
  have hfirst : modifying f (.mem ea) (resolvedState i.form s) = (memWrite ea r u).setP q := by
    simp only [modifying_eq, opRead, hread, hp, hf, opWrite, memWrite_setP]
  rw [exec_writing hmn hk hea, composed, hfirst, reading_eq]
  simp only [opRead, memRead_setP, hagain]

/-- The second handler computes from A as it was before the instruction, and from the first one's flags (R290). -/
theorem exec_composed_intoA {h : Byte → Byte → Flags → Byte × Flags} {b : Byte} {q' : Flags}
    (hmn : i.mnemonic = some mn)
    (hk : kindOf mn = .write (composed (modifying f) (reading fun m s => intoA (h s.a m s.p) s)))
    (hea : storeAddress i.form s = some ea) (hread : memRead ea (resolvedState i.form s) = (v, u))
    (hf : f v s.p = (r, q)) (hagain : memRead ea (memWrite ea r u) = (m, x)) (hh : h s.a m q = (b, q')) :
    exec i s = .next (sequentialEnd i s { x with a := b, p := q' }) := by
  rw [exec_composed hmn hk hea hread hf hagain, State.setP_a, State.setP_p, read_write_read_a hread hagain, hh]
  rfl

/-- A logical operation takes A and the byte read again, and SetNZ leaves the other flags to the first handler
(R291, R292, R293). -/
theorem exec_composed_logic (op : Byte → Byte → Byte) (hmn : i.mnemonic = some mn)
    (hk : kindOf mn =
      .write (composed (modifying f) (reading fun m s => intoA (op s.a m, setNZ (op s.a m) s.p) s)))
    (hea : storeAddress i.form s = some ea) (hread : memRead ea (resolvedState i.form s) = (v, u))
    (hf : f v s.p = (r, q)) (hagain : memRead ea (memWrite ea r u) = (m, x)) :
    exec i s = .next (sequentialEnd i s { x with
      a := op s.a m
      p := { q with z := decide (op s.a m = 0), n := (op s.a m).msb } }) := by
  rw [← setNZ_eq]
  exact exec_composed_intoA (h := fun a m p => (op a m, setNZ (op a m) p)) hmn hk hea hread hf hagain rfl

end

end Sys2Proof.Machine
end

section
/-! SUPPORT. The obligations of spec/45_unofficial.md that are settled: O33 and O34. -/

namespace Sys2Proof.Machine

/-- Settles O33: the carry is the first handler's, and the second one's SetNZ overwrites its Z and N. -/
theorem composedLogicResult : Obligations.ComposedLogicResult := by
  intro i s ea hea
  rcases hread : memRead ea (resolvedState i.form s) with ⟨v, u⟩
  exact ⟨fun hi => exec_composed_logic (· ||| ·) (mnemonic_of_mem (mn := .slo) hi (by decide)) rfl hea hread
      (shiftLeft_eq v s.p) rfl,
    fun hi => exec_composed_logic (· &&& ·) (mnemonic_of_mem (mn := .rla) hi (by decide)) rfl hea hread
      (rotateLeft_eq v s.p) rfl,
    fun hi => exec_composed_logic (· ^^^ ·) (mnemonic_of_mem (mn := .sre) hi (by decide)) rfl hea hread
      (shiftRight_eq v s.p) rfl⟩

/-- Settles O34: ADC takes the carry that ROR shifted out, SBC the one that INC kept; CMP, after DEC, keeps A. -/
theorem composedArithmeticResult : Obligations.ComposedArithmeticResult := by
  intro i s ea hea
  rcases hread : memRead ea (resolvedState i.form s) with ⟨v, u⟩
  refine ⟨fun hi => ?rra, fun hi => ?dcp, fun hi => ?isc⟩
  case rra =>
    exact exec_composed_intoA (h := addWithCarry) (mnemonic_of_mem (mn := .rra) hi (by decide)) rfl hea hread
      (rotateRight_eq v s.p) rfl (addWithCarry_eq ..)
  case dcp =>
    rcases hagain : memRead ea (memWrite ea (v - 1) u) with ⟨m, x⟩
    rw [exec_composed (mnemonic_of_mem (mn := .dcp) hi (by decide)) rfl hea hread (decrement_eq v s.p) hagain,
      State.setP_a, State.setP_p, compareFlags_eq, read_write_read_a hread hagain]
    rfl
  case isc =>
    exact exec_composed_intoA (h := subWithBorrow) (mnemonic_of_mem (mn := .isc) hi (by decide)) rfl hea hread
      (increment_eq v s.p) rfl (subWithBorrow_eq ..)

end Sys2Proof.Machine
end

section
/-! SUPPORT. No part of an instruction reads or writes the IRQ latch (spec/60_exceptions.md R323, R325): setting it
before the instruction is setting it after. -/

namespace Sys2Proof.Machine

/-- Setting the IRQ latch before `f` is setting it after: `f` neither reads nor writes it. -/
def BlindToIrqLatch (f : State → State) : Prop := ∀ b s, f (s.setIrqPending b) = (f s).setIrqPending b

/-- The same of an operation that answers a value too, which does not depend on the latch. -/
def AnswersBlindToIrqLatch {β : Type} (f : State → β × State) : Prop :=
  ∀ b s, f (s.setIrqPending b) = ((f s).1, (f s).2.setIrqPending b)

theorem memRead_blindToIrqLatch (a : Word) : AnswersBlindToIrqLatch (memRead a) := fun b =>
  forall_state_of_memory fun s k => by cases k <;> rfl

/-! ### The handlers -/

theorem blindToIrqLatch_of_read {mn : Mnemonic} {h : Operand → State → State} (hk : kindOf mn = .read h)
    (o : Operand) : BlindToIrqLatch (h o) := by
  refine fun b => forall_state_of_memory fun s k => ?_
  rcases o with v | _ | ea
  · cases mn <;> cases hk <;> rfl
  · cases mn <;> cases hk <;> rfl
  · cases mn <;> cases hk <;> cases k <;> rfl

theorem blindToIrqLatch_of_write {mn : Mnemonic} {h : Place → State → State} (hk : kindOf mn = .write h)
    (t : Place) : BlindToIrqLatch (h t) := by
  refine fun b => forall_state_of_memory fun s k => ?_
  cases t with
  | acc => cases mn <;> cases hk <;> rfl
  | mem ea => cases mn <;> cases hk <;> cases k <;> rfl

theorem blindToIrqLatch_of_implied {mn : Mnemonic} {h : State → State} (hk : kindOf mn = .implied h) :
    BlindToIrqLatch h := by
  refine fun b => forall_state_of_memory fun s k => ?_
  cases mn <;> cases hk
  case pha | php | pla | plp => cases k <;> rfl
  all_goals rfl

theorem branch_blindToIrqLatch (cond : Flags → Bool) (t : Word) : AnswersBlindToIrqLatch (branch cond t) := by
  intro b s
  unfold branch
  rw [State.setIrqPending_p]
  split <;> rfl

theorem blindToIrqLatch_of_jump {mn : Mnemonic} {h : Word → State → Next × State} (hk : kindOf mn = .jump h)
    (t : Word) : AnswersBlindToIrqLatch (h t) := by
  cases mn <;> cases hk
  case jmp => exact fun _ _ => rfl
  case jsr => exact fun b => forall_state_of_memory fun s k => by cases k <;> rfl
  all_goals exact branch_blindToIrqLatch _ t

theorem blindToIrqLatch_of_leave {mn : Mnemonic} {h : Unit → State → Next × State} (hk : kindOf mn = .leave h) :
    AnswersBlindToIrqLatch (h ()) := by
  refine fun b => forall_state_of_memory fun s k => ?_
  cases mn <;> cases hk <;> cases k <;> rfl

/-! ### The resolver -/

/-- A resolved operand with the IRQ latch of its state as given. -/
def Resolved.setIrqPending {α : Type} (b : Bool) (r : Resolved α) : Resolved α :=
  { r with state := r.state.setIrqPending b }

theorem resolveMem_setIrqPending (m : MemForm) (b : Bool) : ∀ s : State,
    resolveMem m (s.setIrqPending b) = (resolveMem m s).setIrqPending b :=
  forall_state_of_memory fun s k => by cases m <;> cases k <;> rfl

theorem readForm_setIrqPending (f : Form) (b : Bool) (s : State) :
    readForm f (s.setIrqPending b) = (readForm f s).map (Resolved.setIrqPending b) := by
  cases f with
  | mem m => simp only [readForm, memOperand, resolveMem_setIrqPending]; rfl
  | _ => rfl

theorem writeForm_setIrqPending (f : Form) (b : Bool) (s : State) :
    writeForm f (s.setIrqPending b) = (writeForm f s).map (Resolved.setIrqPending b) := by
  cases f with
  | mem m => simp only [writeForm, memPlace, resolveMem_setIrqPending]; rfl
  | _ => rfl

theorem jumpForm_setIrqPending (f : Form) (b : Bool) : ∀ s : State,
    jumpForm f (s.setIrqPending b) = (jumpForm f s).map (Resolved.setIrqPending b) :=
  forall_state_of_memory fun s k => by
    cases f with
    | mem m => cases m <;> rfl
    | ind addr => cases k <;> rfl
    | _ => rfl

theorem resolvedState_blindToIrqLatch (f : Form) : BlindToIrqLatch (resolvedState f) := fun b =>
  forall_state_of_memory fun s k => by
    cases f with
    | mem m => simp only [resolvedState, resolveMem_setIrqPending]; rfl
    | ind addr => cases k <;> rfl
    | _ => rfl

theorem crossOf_setIrqPending (f : Form) (b : Bool) (s : State) : crossOf f (s.setIrqPending b) = crossOf f s := by
  cases f with
  | mem m => simp only [crossOf, resolveMem_setIrqPending]; rfl
  | _ => rfl

/-! ### The instruction -/

theorem updatePc_blindToIrqLatch (op : Byte) (n : Next) : BlindToIrqLatch (updatePc op n) := by
  intro b s
  unfold updatePc
  rw [State.setIrqPending_params]
  cases n <;> cases s.params.pcUpdate <;> rfl

/-- The part of a Step after decode (R117), for a handler that is blind to the latch. -/
theorem run_setIrqPending {α : Type} {op : Byte} {r : Resolved α} {h : α → State → Next × State} {t : State} (b : Bool)
    (hh : AnswersBlindToIrqLatch (h r.operand)) (ht : run op r h = .next t) :
    run op (r.setIrqPending b) h = .next (t.setIrqPending b) := by
  have hhandler := hh b (account op r.cross r.state)
  rw [run_eq] at ht
  cases ht
  rw [← updatePc_blindToIrqLatch, run_eq]
  change Host.Outcome.next (updatePc op (h r.operand ((account op r.cross r.state).setIrqPending b)).1
    (h r.operand ((account op r.cross r.state).setIrqPending b)).2) = _
  rw [hhandler]

theorem runSeq_setIrqPending {α : Type} {op : Byte} {r : Resolved α} {h : α → State → State} {t : State} (b : Bool)
    (hh : BlindToIrqLatch (h r.operand)) (ht : runSeq op r h = .next t) :
    runSeq op (r.setIrqPending b) h = .next (t.setIrqPending b) :=
  run_setIrqPending b (fun b s => congrArg (Prod.mk _) (hh b s)) ht

/-- Every instruction does with the IRQ latch set what it does with the latch clear, and leaves it as it was. -/
theorem exec_setIrqPending {i : Instr} {s t : State} (b : Bool) (h : exec i s = .next t) :
    exec i (s.setIrqPending b) = .next (t.setIrqPending b) := by
  rcases exec_cases i s with ⟨he, hx⟩ | ⟨e, he, hkind⟩
  · rw [hx] at h
    cases h
    exact exec_unmapped he
  rcases hkind with ⟨f, r, hk, hr, hx⟩ | ⟨f, r, hk, hr, hx⟩ | ⟨f, hk, -, hx⟩ | ⟨hk, hx⟩ | ⟨f, r, hk, hr, hx⟩ |
    ⟨f, hk, -, hx⟩ <;> rw [hx] at h
  · obtain ⟨r', hr', hx'⟩ := exec_read (s := s.setIrqPending b) he hk
    rw [readForm_setIrqPending, hr] at hr'
    cases hr'
    rw [hx']
    exact runSeq_setIrqPending b (blindToIrqLatch_of_read hk _) h
  · obtain ⟨r', hr', hx'⟩ := exec_write (s := s.setIrqPending b) he hk
    rw [writeForm_setIrqPending, hr] at hr'
    cases hr'
    rw [hx']
    exact runSeq_setIrqPending b (blindToIrqLatch_of_write hk _) h
  · rw [(exec_implied (s := s.setIrqPending b) he hk).2]
    exact runSeq_setIrqPending (r := noOperand s) b (blindToIrqLatch_of_implied hk) h
  · rw [exec_ignore (s := s.setIrqPending b) he hk, crossOf_setIrqPending, resolvedState_blindToIrqLatch]
    exact run_setIrqPending (r := ⟨(), crossOf i.form s, resolvedState i.form s⟩) (h := fun _ u => (.sequential, u)) b
      (fun _ _ => rfl) h
  · obtain ⟨r', hr', hx'⟩ := exec_jump (s := s.setIrqPending b) he hk
    rw [jumpForm_setIrqPending, hr] at hr'
    cases hr'
    rw [hx']
    exact run_setIrqPending b (blindToIrqLatch_of_jump hk _) h
  · rw [(exec_leave (s := s.setIrqPending b) he hk).2]
    exact run_setIrqPending (r := noOperand s) b (blindToIrqLatch_of_leave hk) h

/-! ### The instruction at PC -/

theorem fetch_blindToIrqLatch : AnswersBlindToIrqLatch fetch := by
  intro b s
  unfold fetch
  simp only [memRead_blindToIrqLatch _ b, State.setIrqPending_pc]
  cases decodeOpcode (memRead s.pc s).1 <;> rfl

theorem runInstruction_setIrqPending {s t : State} (b : Bool) (h : runInstruction s = .next t) :
    runInstruction (s.setIrqPending b) = .next (t.setIrqPending b) := by
  rw [runInstruction_eq] at h
  rw [runInstruction_eq, fetch_blindToIrqLatch]
  exact exec_setIrqPending b h

end Sys2Proof.Machine
end

section
/-! SUPPORT. The service of an interrupt, whole (spec/60_exceptions.md R326 to R328), and the Step that is one. -/

namespace Sys2Proof.Machine

/-- The pushes keep Cycles, so vectoring is the two pushes and four field updates (R328). -/
theorem vector_eq_pushes (v : Word) (s : State) :
    vector v s = { push (hardwareStatus s.p) (push16 s.pc s) with
      p := { s.p with i := true }
      cycles := s.cycles + 7
      pc := v } := by
  rw [vector, enterHandler_eq, addCycles, State.setP_cycles, push_cycles, push16_cycles]
  rfl

/-- A push neither reads nor writes what a service does to the NMI latch and marker (R326). -/
theorem push_nmiTaken (v : Byte) : ∀ s : State,
    push v ((s.setNmiPending false).setNmiRunning true) = ((push v s).setNmiPending false).setNmiRunning true :=
  forall_state_of_memory fun s k => by cases k <;> rfl

/-- A push neither reads nor writes what a service does to the IRQ latch and marker (R327). -/
theorem push_irqTaken (v : Byte) : ∀ s : State,
    push v ((s.setIrqPending false).setIrqRunning true) = ((push v s).setIrqPending false).setIrqRunning true :=
  forall_state_of_memory fun s k => by cases k <;> rfl

theorem serviceNmi_eq_pushes (s : State) :
    serviceNmi s = { push (hardwareStatus s.p) (push16 s.pc s) with
      nmiPending := false
      nmiRunning := true
      p := { s.p with i := true }
      cycles := s.cycles + 7
      pc := s.nmiAddress } := by
  rw [serviceNmi_eq, vector_eq_pushes, push16, push_nmiTaken, push_nmiTaken, push_nmiTaken]
  rfl

theorem serviceIrq_eq_pushes (s : State) :
    serviceIrq s = { push (hardwareStatus s.p) (push16 s.pc s) with
      irqPending := false
      irqRunning := true
      p := { s.p with i := true }
      cycles := s.cycles + 7
      pc := s.irqAddress } := by
  rw [serviceIrq_eq, vector_eq_pushes, push16, push_irqTaken, push_irqTaken, push_irqTaken]
  rfl

/-- The port calls of an entry's pushes: PC high byte first, then the status byte (R69, R71, R328). -/
theorem entryPushes_portCalls (ret : Word) (status : Byte) (s : State) :
    (push status (push16 ret s)).portCalls = s.portCalls ++
      [.write (stackAddr s.sp) (hi ret), .write (stackAddr (s.sp - 1)) (lo ret),
       .write (stackAddr (s.sp - 2)) status] := by
  have hsp : s.sp - 1 - 1 = s.sp - 2 := by bv_omega
  rw [← hsp]
  simp [push16]

/-- An unfused Step that services an interrupt ends there (R117). -/
theorem step_of_serviceInterrupt {s t : State} (hf : s.fault = none) (hunfused : s.params.fusedInterruptStep = false)
    (hi : serviceInterrupt s.beginStep = some t) : step s = .next t := by
  have hparams : t.params = s.params := (serviceInterrupt_keepsFixed hi).params
  rw [step_of_running hf, stepRunning_some hi, hparams, hunfused]
  rfl

/-- A Step with no interrupt to service runs the instruction at PC (R117). -/
theorem step_of_not_serviceable {s : State} (hf : s.fault = none) (h : serviceable s = false) :
    step s = runInstruction s.beginStep := by
  rw [step_of_running hf, stepRunning_none (serviceInterrupt_none h)]

/-- While I is 1 and no NMI is pending nothing is serviceable, whatever the IRQ latch (R323, R325). -/
theorem serviceable_of_masked {s : State} (hnmi : s.nmiPending = false) (hmask : s.p.i = true) :
    serviceable s = false := by
  simp [serviceable, hnmi, hmask]

end Sys2Proof.Machine
end

section
/-! SUPPORT. The obligations of spec/60_exceptions.md that are settled: O42, O43, O44 and O56. -/

namespace Sys2Proof.Machine

/-- Settles O42: the check point looks at the NMI latch first, and the Step ends with the service. -/
theorem nmiIsServiced : Obligations.NmiIsServiced := by
  intro s hf hnmi hunfused
  have hstep := step_of_serviceInterrupt hf hunfused (serviceInterrupt_nmi (s := s.beginStep) hnmi)
  rw [serviceNmi_eq_pushes] at hstep
  refine ⟨hstep, fun t ht => ?_⟩
  cases hstep.symm.trans ht
  exact entryPushes_portCalls s.pc (hardwareStatus s.p) s.beginStep

/-- Settles O43: with I clear the check point comes to the IRQ latch, and the Step ends with the service. -/
theorem irqIsServiced : Obligations.IrqIsServiced := by
  intro s hf hnmi hirq hunmasked hunfused
  have hstep := step_of_serviceInterrupt hf hunfused (serviceInterrupt_irq (s := s.beginStep) hnmi hirq hunmasked)
  rw [serviceIrq_eq_pushes] at hstep
  refine ⟨hstep, fun t ht => ?_⟩
  cases hstep.symm.trans ht
  exact entryPushes_portCalls s.pc (hardwareStatus s.p) s.beginStep

/-- Settles O44: both Steps run the instruction at PC, which is blind to the latch. -/
theorem irqIsHeldWhileMasked : Obligations.IrqIsHeldWhileMasked := by
  intro s t hf hnmi hmask h
  have hruns (latch : Bool) :
      step (s.setIrqPending latch) = runInstruction (s.beginStep.setIrqPending latch) :=
    step_of_not_serviceable hf (serviceable_of_masked hnmi hmask)
  have hclear : runInstruction (s.beginStep.setIrqPending false) = .next t := (hruns false).symm.trans h
  exact (hruns true).trans (runInstruction_setIrqPending (s := s.beginStep.setIrqPending false) true hclear)

/-- Settles O56: each call is one update of one field, and ConsumeStall tests the budget first. -/
theorem hostCallsResult : Obligations.HostCallsResult := by
  intro s n k
  exact ⟨rfl, rfl, rfl, rfl, rfl, fun hwithin => if_pos hwithin, fun habove => if_neg habove, rfl⟩

end Sys2Proof.Machine
end

section
/-! SUPPORT. A word read, whole (spec/20_memory.md R64), and Reset as three of them (spec/70_reset_and_hazards.md
R370). -/

namespace Sys2Proof.Machine

/-- A word read is two port reads, low byte first, and changes nothing but the port's own record (R64). -/
theorem readWord_of_answers {a : Word} {s : State} {l h : Byte} (hl : s.portByte a = l)
    (hh : (s.afterRead a).portByte (a + 1) = h) :
    readWord a s = (wordOf h l,
      { s with draws := (readWord a s).2.draws, portCalls := s.portCalls ++ [.read a l, .read (a + 1) h] }) := by
  subst hl hh
  have hcalls : (readWord a s).2.portCalls =
      s.portCalls ++ [.read a (s.portByte a), .read (a + 1) ((s.afterRead a).portByte (a + 1))] := by
    simp [readWord_spec]
  rw [← hcalls]
  exact Prod.ext rfl (sameButPort_readWord a s)

/-- Some two bytes are answered, whatever the memory (R64). -/
theorem readWord_whole (a : Word) (s : State) : ∃ (l h : Byte) (d : Nat), readWord a s =
    (wordOf h l, { s with draws := d, portCalls := s.portCalls ++ [.read a l, .read (a + 1) h] }) :=
  ⟨_, _, _, readWord_of_answers rfl rfl⟩

/-- Under `PlainRAM` they are the bytes of memory, and the host oracle is not asked (R64, R76). -/
theorem readWord_whole_plainRam {s : State} (hram : s.params.memory = .plainRam) (a : Word) : readWord a s =
    (wordOf (s.byteAt (a + 1)) (s.byteAt a),
      { s with portCalls := s.portCalls ++ [.read a (s.byteAt a), .read (a + 1) (s.byteAt (a + 1))] }) := by
  have hdraws : (readWord a s).2.draws = s.draws := by simp [readWord_spec, afterRead_draws, hram]
  rw [readWord_of_answers (portByte_eq_byteAt hram a) (afterRead_portByte hram a (a + 1)), hdraws]

/-- Reset is its three word reads, one after the other (R370). -/
theorem hostReset_of_reads {s t u v : State} {nmi start irq : Word}
    (hnmi : readWord Config.nmiVectorLocation (resetRegisters s) = (nmi, t))
    (hstart : readWord Config.resetVectorLocation (t.setNmiAddress nmi) = (start, u))
    (hirq : readWord Config.irqVectorLocation (u.setPc start) = (irq, v)) :
    hostReset s = v.setIrqAddress irq := by
  simp only [hostReset, hnmi, hstart, hirq]

end Sys2Proof.Machine
end

section
/-! SUPPORT. The obligation of spec/70_reset_and_hazards.md that is settled: O55. -/

namespace Sys2Proof.Machine

/-- Settles O55: the three word reads, one after the other, under `PlainRAM` and under any memory. -/
theorem resetResult : Obligations.ResetResult := by
  refine fun s => ⟨fun hram => ?_, ?_⟩
  · rw [hostReset_of_reads (readWord_whole_plainRam (by exact hram) _) (readWord_whole_plainRam (by exact hram) _)
      (readWord_whole_plainRam (by exact hram) _)]
    rfl
  · obtain ⟨n0, n1, _, hnmi⟩ := readWord_whole Config.nmiVectorLocation (resetRegisters s)
    obtain ⟨r0, r1, _, hstart⟩ := readWord_whole Config.resetVectorLocation (State.setNmiAddress _ (wordOf n1 n0))
    obtain ⟨i0, i1, _, hirq⟩ := readWord_whole Config.irqVectorLocation (State.setPc _ (wordOf r1 r0))
    refine ⟨n0, n1, r0, r1, i0, i1, ?_⟩
    rw [hostReset_of_reads hnmi hstart hirq]
    rfl

end Sys2Proof.Machine
end
